-- ==== Sys2Proof/Word.lean ====
section
/-! DEFINITION. The word types of the block (00_scope.md R8, R11): bits are numbered from 0, the least significant.
-/

namespace Sys2Proof

/-- A framebuffer row or a host register: 32 bits (R8 ROW_BITS, R22). -/
abbrev Word := BitVec 32

/-- A command word of the serial bus: 16 bits (R8 HW_BITS, R82). -/
abbrev Half := BitVec 16

/-- A bitmap byte, a chip's column byte, a chip register address (R10, R82). -/
abbrev Byte := BitVec 8

/-- A transfer record: 4 halfwords, halfword j for chip j (R8 REC_HW, R23, R83). -/
abbrev Record := Vector Half 4

/-- The framebuffer's rows: 8 words of 32 bits (R21, R100). -/
abbrev Rows := Vector Word 8

/-- The queue's slots: 8 records (R8 QCAP, R23). -/
abbrev Slots := Vector Record 8

end Sys2Proof
end

