-- ==== Sys2Proof/Syntax.lean ====
section
/-! DEFINITION. What the block can be asked to do: the operations of spec/opcode_table.json, the code words that name
them, the host's register accesses and script (30_encoding.md), and the agents that take steps (00_scope.md R17).
-/

namespace Sys2Proof

/-- The operations of the opcode table, one constructor a row (30_encoding.md R77, R82; 42_protocol_sequencer.md R150).
DRAW's other operands are host registers (R73, R74). The row index of FB_READ and FB_WRITE is a byte, so that the
FB_INDEX fault of R101 and R102 can be reached (log 10); SEQ_ROW's is the 3-bit index of R100 (log 11). -/
inductive Instr where
  | init
  | clear
  | draw (bmlen : BitVec 4)
  | flash
  | fbRead (r : Byte)
  | fbWrite (r : Byte) (v : Word)
  | qReset
  | qStage (rec : Record)
  | qNext
  | engStart
  | engIrq
  | finalize
  | seqRow (r : BitVec 3) (v : Word)
  | busWord (addr data : Byte)
  deriving DecidableEq, Repr

/-- Why a CMD write is refused (30_encoding.md R79), each named as the rule names it. -/
inductive CmdRefusal where
  | reservedBits
  | reservedOp
  | bmlenRange
  | reinit
  | notInit
  deriving DecidableEq, Repr

/-- The operands of an internal operation, "passed inside the block" (30_encoding.md R81). An operation reads only the
lanes its rule names (log 10). -/
structure Lanes where
  row : Byte
  value : Word
  record : Record
  deriving DecidableEq, Repr

/-- A code word, in the space its format belongs to (the opcode table's "format"): a host write of CMD (R72), an
internal OP with its operand lanes (R77, R81), the combinational function SEQ_ROW, which has no OP (R150), or a word on
the serial bus (R82). -/
inductive Code where
  | cmd (w : Word)
  | internal (op : BitVec 4) (lanes : Lanes)
  | function (r : BitVec 3) (v : Word)
  | wire (h : Half)
  deriving DecidableEq, Repr

/-- The host's registers (30_encoding.md R71). -/
inductive HostReg where
  | cmd
  | x
  | y
  | w
  | bm0
  | bm1
  | status
  | reserved
  | fb (r : Fin 8)
  deriving DecidableEq, Repr

/-- The width of a host access: 8, 16 or 32 bits; only 32 is accepted (20_memory.md R55, 30_encoding.md R80). -/
inductive AccessSize where
  | bits8
  | bits16
  | bits32
  deriving DecidableEq, Repr

/-- One access of the host to the register space (20_memory.md R50), at an offset from the block's base. -/
inductive HostAccess where
  | write (offset : Nat) (size : AccessSize) (value : Word)
  | read (offset : Nat) (size : AccessSize)
  deriving DecidableEq, Repr

/-- RESULT's values (10_state.md R34, 60_exceptions.md R265). -/
inductive ResultCode where
  | ok
  | busyError
  | overflowError
  | refused
  deriving DecidableEq, Repr

/-- The conditions of a host branch, on the value last read (30_encoding.md R87). -/
inductive HostCond where
  | busy
  | resultIs (r : ResultCode)
  deriving DecidableEq, Repr

/-- A line of a host script (30_encoding.md R87): WR or RD, or IF … GOTO a line (a label stands for the number of the
line that follows it; log 15). -/
inductive HostLine where
  | access (a : HostAccess)
  | ifGoto (c : HostCond) (line : Nat)
  deriving DecidableEq, Repr

/-- Who takes the next step (00_scope.md R17, 30_encoding.md R92): the host, a test bench at the internal decoder
(log 14), the engine continuation, the transfer unit's MOVE, FAIL or OTHER, the shifter. -/
inductive Agent where
  | host
  | bench
  | irq
  | tuMove
  | tuFail
  | tuOther
  | shShift
  deriving DecidableEq, Repr, Inhabited

end Sys2Proof
end

