-- ==== Sys2Proof/Config.lean ====
section
/-! DEFINITION. The parameters of 00_scope.md R9, and the values the spec leaves open, as constants with no body.
-/

namespace Sys2Proof

/-- The open parameters of 00_scope.md R9: "A model takes each one as an argument." They stand in one record that
Machine.State carries and no step changes (log 2). -/
structure Params where
  intensity : Byte
  addrTest : Byte
  addrDecode : Byte
  addrIntensity : Byte
  addrScanLimit : Byte
  addrShutdown : Byte
  valTestOff : Byte
  valDecodeRaw : Byte
  valScanLimitAll : Byte
  valShutdownExit : Byte
  qbase : Nat
  shifterDepth : Nat
  tuMayFail : Bool
  tuOtherCauses : Bool
  extraFinalLatch : Bool
  deriving DecidableEq, Repr

/-- INTENSITY has no default: OPEN (R9, 92_eei_decisions.md D11; log 3). -/
opaque Config.intensity : Byte

/-- QBASE has no default: OPEN (R9, 92_eei_decisions.md D19; log 3). -/
opaque Config.qbase : Nat

/-- Halfword j of queue slot k at reset: unspecified, any value (10_state.md R23, 93_implementation_defined.md I5; log 4). -/
opaque Config.resetQueueHalf : Nat → Nat → Half

/-- TU.src at reset: unspecified, any value (10_state.md R28, 93_implementation_defined.md I6; log 4). -/
opaque Config.resetTuSrc : Nat

/-- Which agent moves when the schedule names none: any agent (00_scope.md R17; log 1). -/
opaque Config.freeAgent : Nat → Agent

/-- The parameters' defaults (R9). The chip's addresses and values, and SHIFTER_DEPTH, are PRESUMED by the spec from
general knowledge of the MAX7219 family (log 2, log 19); INTENSITY and QBASE are open (log 3). -/
def Config.defaultParams : Params where
  intensity := Config.intensity
  addrTest := 0x0F#8
  addrDecode := 0x09#8
  addrIntensity := 0x0A#8
  addrScanLimit := 0x0B#8
  addrShutdown := 0x0C#8
  valTestOff := 0x00#8
  valDecodeRaw := 0x00#8
  valScanLimitAll := 0x07#8
  valShutdownExit := 0x01#8
  qbase := Config.qbase
  shifterDepth := 2
  tuMayFail := true
  tuOtherCauses := true
  extraFinalLatch := false

end Sys2Proof
end

