-- ==== Sys2Proof/Machine/State.lean ====
section
/-! DEFINITION. The state of the block and its environment (10_state.md R20 to R36), as plain data, and its value after
reset (70_reset_and_hazards.md R290). The last six fields are the model's own and say so.
-/

namespace Sys2Proof.Machine

/-- E, the engine state (10_state.md R27, 44_dma_streaming_engine.md R210). -/
inductive Engine where
  | idle
  | starting
  | streaming
  deriving DecidableEq, Repr

/-- CS, the chip-select line (10_state.md R32). -/
inductive ChipSelect where
  | asserted
  | deasserted
  | unknown
  deriving DecidableEq, Repr

/-- An event of the bus trace (30_encoding.md R84). -/
inductive BusEvent where
  | word (h : Half)
  | csAssert
  | csDeassert
  deriving DecidableEq, Repr

/-- The reasons of the fault mark (60_exceptions.md R269). -/
inductive FaultReason where
  | fbIndex
  | engineInvariant
  | spuriousCompletion
  | tuArmActive
  | tuAddress
  deriving DecidableEq, Repr

/-- The fault mark, a set of reasons (10_state.md R36): one bit a reason, so equal sets are equal data. -/
structure FaultMark where
  fbIndex : Bool
  engineInvariant : Bool
  spuriousCompletion : Bool
  tuArmActive : Bool
  tuAddress : Bool
  deriving DecidableEq, Repr

/-- The transfer queue (10_state.md R23 to R25): slots, the number staged and the cursor, both 0 to 8. -/
structure Queue where
  slots : Slots
  count : Fin 9
  cursor : Fin 9
  deriving DecidableEq, Repr

/-- The transfer unit (10_state.md R28, R29). Addresses and halfword counts are naturals (log 17). -/
structure TransferUnit where
  src : Nat
  n : Nat
  k : Nat
  active : Bool
  tc : Bool
  other : Bool
  deriving DecidableEq, Repr

/-- The serial shifter (10_state.md R31): SH.pending, the oldest halfword first. -/
structure Shifter where
  enabled : Bool
  pending : List Half
  deriving DecidableEq, Repr

/-- How an operation ended, and the value it returned (00_scope.md R15: a result, an error result, a refusal or a fault,
each its own constructor). Q_NEXT returns a slot or None (43_transfer_queue.md R184). -/
inductive OpOutcome where
  | ok
  | okValue (v : Word)
  | okRecord (rec : Record)
  | okSlot (k : Fin 8) (rec : Record)
  | okNone
  | busyError
  | overflowError
  | refused (why : CmdRefusal)
  | fault (why : FaultReason)
  deriving DecidableEq, Repr

/-- The host's thread (30_encoding.md R87): its script, the line it is at, the value it last read (log 15). It belongs
to the host, not to the block. -/
structure HostThread where
  lines : List HostLine
  pc : Nat
  lastRead : Word
  deriving DecidableEq, Repr

/-- Why a step stops with a fault. There is none: every fault of the spec is the fault mark of 60_exceptions.md R268,
a next state (log 7). Safe: no run is ended by it. -/
inductive Fault where
  deriving DecidableEq, Repr

/-- Why a step is refused. -/
inductive Refusal where
  /-- An instruction with no meaning yet; raised by exec only. Safe. -/
  | notModelled (mnemonic : String)
  /-- A host access of 8 or 16 bits, raised by the register port: "a model refuses the program" (30_encoding.md R80). Safe. -/
  | accessWidth
  /-- A host access whose offset is not a multiple of 4, raised by the register port (30_encoding.md R80). Safe. -/
  | accessUnaligned
  /-- A host access at or above 0x40, raised by the register port (30_encoding.md R80). Safe. -/
  | accessRange
  /-- A code at the internal decoder that names no internal operation, raised by the test bench's port only; the reason is
  the decoder's (30_encoding.md R77; log 14). Safe. -/
  | notInternal (why : CmdRefusal)
  deriving DecidableEq, Repr

/-- The block and its environment (10_state.md R20), with the model's own fields last. -/
structure State where
  /-- The parameters (R9); the model's own field, which no step changes (log 2). -/
  params : Params
  /-- FB (R21). -/
  fb : Rows
  /-- X (R22). -/
  regX : Word
  /-- Y (R22). -/
  regY : Word
  /-- W (R22). -/
  regW : Word
  /-- BM0 (R22). -/
  regBm0 : Word
  /-- BM1 (R22). -/
  regBm1 : Word
  /-- Q (R23 to R25). -/
  queue : Queue
  /-- B (R26). -/
  busy : Bool
  /-- E (R27). -/
  engine : Engine
  /-- TU (R28, R29). -/
  tu : TransferUnit
  /-- IE (R30). -/
  ie : Bool
  /-- SH (R31). -/
  shifter : Shifter
  /-- CS (R32). -/
  cs : ChipSelect
  /-- INIT_DONE (R33). -/
  initDone : Bool
  /-- RESULT (R34). -/
  result : ResultCode
  /-- The bus trace, the oldest event first (R35). -/
  trace : List BusEvent
  /-- The fault mark (R36). -/
  faults : FaultMark
  /-- How the last operation ended (R15, R18); the model's own field (log 9). -/
  outcome : OpOutcome
  /-- The host's thread (R87); the model's own field (log 15). -/
  host : HostThread
  /-- The codes a test bench presents to the internal decoder; the model's own field (log 14). -/
  bench : List Code
  /-- Whose turn comes next (R17, R92); the model's own field (log 1). -/
  sched : List Agent
  /-- How many free choices of an agent have been made; the model's own field (log 1). -/
  turn : Nat
  deriving DecidableEq, Repr

/-- The empty fault mark. -/
def FaultMark.empty : FaultMark := ⟨false, false, false, false, false⟩

/-- The slots at reset: unspecified, any value (10_state.md R23; log 4). -/
def Queue.resetSlots : Slots :=
  Vector.ofFn fun k => Vector.ofFn fun j => Config.resetQueueHalf k.val j.val

/-- Right after reset (70_reset_and_hazards.md R290). Q.rec and TU.src are free constants (log 4). -/
def State.reset : State where
  params := Config.defaultParams
  fb := Vector.replicate 8 0#32
  regX := 0#32
  regY := 0#32
  regW := 0#32
  regBm0 := 0#32
  regBm1 := 0#32
  queue := { slots := Queue.resetSlots, count := 0, cursor := 0 }
  busy := false
  engine := .idle
  tu := { src := Config.resetTuSrc, n := 0, k := 0, active := false, tc := false, other := false }
  ie := false
  shifter := { enabled := false, pending := [] }
  cs := .unknown
  initDone := false
  result := .ok
  trace := []
  faults := FaultMark.empty
  outcome := .ok
  host := { lines := [], pc := 0, lastRead := 0#32 }
  bench := []
  sched := []
  turn := 0

end Sys2Proof.Machine
end

