-- ==== Sys2Proof/Machine/Flags.lean ====
section
/-! DEFINITION. The status bits: RESULT's codes, STATUS (30_encoding.md R75), the fault mark (60_exceptions.md R268) and
the interrupt's pending and enabled conditions (R272, 44_dma_streaming_engine.md R220).
-/

namespace Sys2Proof.Machine

/-- RESULT's codes (60_exceptions.md R265). -/
def resultCode : ResultCode → BitVec 2
  | .ok => 0#2
  | .busyError => 1#2
  | .overflowError => 2#2
  | .refused => 3#2

/-- STATUS.ESTATE's codes (30_encoding.md R75): 3 is never read. -/
def engineCode : Engine → BitVec 2
  | .idle => 0#2
  | .starting => 1#2
  | .streaming => 2#2

/-- Adding a reason to the fault mark; nothing removes one (10_state.md R36). -/
def FaultMark.add (m : FaultMark) : FaultReason → FaultMark
  | .fbIndex => { m with fbIndex := true }
  | .engineInvariant => { m with engineInvariant := true }
  | .spuriousCompletion => { m with spuriousCompletion := true }
  | .tuArmActive => { m with tuArmActive := true }
  | .tuAddress => { m with tuAddress := true }

/-- Whether a reason is in the fault mark. -/
def FaultMark.has (m : FaultMark) : FaultReason → Bool
  | .fbIndex => m.fbIndex
  | .engineInvariant => m.engineInvariant
  | .spuriousCompletion => m.spuriousCompletion
  | .tuArmActive => m.tuArmActive
  | .tuAddress => m.tuAddress

/-- STATUS.FAULT: the mark is not empty (30_encoding.md R75). -/
def FaultMark.nonEmpty (m : FaultMark) : Bool :=
  m.fbIndex || m.engineInvariant || m.spuriousCompletion || m.tuArmActive || m.tuAddress

/-- STATUS (30_encoding.md R75): {0 31:15, FAULT 14, QCURSOR 13:10, QCOUNT 9:6, INIT 5, RESULT 4:3, ESTATE 2:1, BUSY 0}. -/
def State.status (s : State) : Word :=
  0#17 ++ (BitVec.ofBool s.faults.nonEmpty ++ (BitVec.ofNat 4 s.queue.cursor.val ++ (BitVec.ofNat 4 s.queue.count.val ++
    (BitVec.ofBool s.initDone ++ (resultCode s.result ++ (engineCode s.engine ++ BitVec.ofBool s.busy))))))

/-- An interrupt cause is pending, whether or not the interrupt is enabled (10_state.md R29, 60_exceptions.md R270). -/
def State.causePending (s : State) : Bool := s.tu.tc || s.tu.other

/-- The interrupt is pending: a cause is, and the interrupt is enabled (60_exceptions.md R272, 00_scope.md R17). -/
def State.irqPending (s : State) : Bool := s.ie && s.causePending

/-- `serial_is_busy` (44_dma_streaming_engine.md R247). -/
def State.serialIsBusy (s : State) : Bool := !s.shifter.pending.isEmpty

/-- `transfer_is_idle` (10_state.md R28). -/
def State.transferIsIdle (s : State) : Bool := !s.tu.active

/-- `transfer_is_complete` (10_state.md R29). -/
def State.transferIsComplete (s : State) : Bool := s.tu.tc

/-- ENG_IRQ is enabled (44_dma_streaming_engine.md R220): pending, and on a completion the shifter is empty. -/
def State.irqEnabled (s : State) : Bool := s.irqPending && (!s.transferIsComplete || !s.serialIsBusy)

/-- A host branch's condition on the value last read (30_encoding.md R87): STATUS[0] = 1, or STATUS[4:3] names the
result. -/
def condHolds (v : Word) : HostCond → Bool
  | .busy => v.getLsbD 0
  | .resultIs r => decide (v.extractLsb' 3 2 = resultCode r)

end Sys2Proof.Machine
end

