-- ==== Sys2Proof/Machine/Operands.lean ====
section
/-! DEFINITION. The operands of the operations and the pure functions over them: DRAW's registers, bitmap and placement
(41_bit_compositor.md R122 to R129), SEQ_ROW's record (42_protocol_sequencer.md R150), bring-up words (R155), addresses.
-/

namespace Sys2Proof.Machine

/-- DRAW's x, `s32(X)` (30_encoding.md R73). -/
def State.drawX (s : State) : Int := s.regX.toInt

/-- DRAW's y, `u32(Y)` (30_encoding.md R73). -/
def State.drawY (s : State) : Nat := s.regY.toNat

/-- DRAW's width, `u32(W)` (30_encoding.md R73). -/
def State.drawWidth (s : State) : Nat := s.regW.toNat

/-- Bitmap byte i of BM0 and BM1 (30_encoding.md R74): the first byte in the most significant place. -/
def bitmapByte (bm0 bm1 : Word) (i : Nat) : Byte :=
  if i < 4 then bm0.extractLsb' (24 - 8 * i) 8 else bm1.extractLsb' (24 - 8 * (i - 4)) 8

/-- The bitmap DRAW uses: `bm[0..n-1]`; the other bytes are ignored (30_encoding.md R74). -/
def State.bitmap (s : State) (n : Nat) : List Byte :=
  (List.range n).map (bitmapByte s.regBm0 s.regBm1)

/-- `w = min(width, 8)` (41_bit_compositor.md R123). -/
def clampWidth (width : Nat) : Nat := min width 8

/-- `m = zext_32(bm[i]) & (2^w − 1)` (41_bit_compositor.md R124). -/
def maskByte (w : Nat) (b : Byte) : Word := b.zeroExtend 32 &&& BitVec.ofNat 32 (2 ^ w - 1)

/-- `shift = 32 − x − w`, on mathematical integers (41_bit_compositor.md R125). -/
def drawShift (x : Int) (w : Nat) : Int := 32 - x - (w : Int)

/-- Where a masked byte goes in its row (41_bit_compositor.md R126, 00_scope.md R12): a left shift truncated to 32 bits,
0 from a shift of 32 on; a right shift that floors. The amount never wraps. -/
def placeRow (m : Word) (shift : Int) : Word :=
  if 0 ≤ shift then
    if shift < 32 then m <<< shift.toNat else 0#32
  else
    if -shift < 32 then m >>> (-shift).toNat else 0#32

/-- What DRAW ORs into the row of bitmap byte b (41_bit_compositor.md R124 to R126). -/
def drawnRow (x : Int) (width : Nat) (b : Byte) : Word :=
  placeRow (maskByte (clampWidth width) b) (drawShift x (clampWidth width))

/-- The row loop of DRAW (41_bit_compositor.md R127 to R129), on what each bitmap row ORs in: from row r on, one row a
value, until the values are exhausted or the row index reaches 8. -/
def orRows : List Word → Nat → Rows → Rows
  | [], _, fb => fb
  | p :: ps, r, fb => if h : r < 8 then orRows ps (r + 1) (fb.set r (fb[r] ||| p)) else fb

/-- The framebuffer after DRAW (41_bit_compositor.md R129). -/
def drawRows (x : Int) (y width : Nat) (bm : List Byte) (fb : Rows) : Rows :=
  orRows (bm.map (drawnRow x width)) y fb

/-- A bus command word, `{addr, data}` (30_encoding.md R82). -/
def commandWord (addr data : Byte) : Half := addr ++ data

/-- SEQ_ROW(r, v) (42_protocol_sequencer.md R150): chip 0 first, the most significant byte of the row, each word
addressed to digit register r + 1. -/
def seqRow (r : Nat) (v : Word) : Record :=
  #v[commandWord (BitVec.ofNat 8 (r + 1)) (v.extractLsb' 24 8),
     commandWord (BitVec.ofNat 8 (r + 1)) (v.extractLsb' 16 8),
     commandWord (BitVec.ofNat 8 (r + 1)) (v.extractLsb' 8 8),
     commandWord (BitVec.ofNat 8 (r + 1)) (v.extractLsb' 0 8)]

/-- The five bring-up words, in their order (42_protocol_sequencer.md R154, R155). -/
def bringUpWords (p : Params) : List Half :=
  [commandWord p.addrTest p.valTestOff,
   commandWord p.addrDecode p.valDecodeRaw,
   commandWord p.addrIntensity p.intensity,
   commandWord p.addrScanLimit p.valScanLimitAll,
   commandWord p.addrShutdown p.valShutdownExit]

/-- The address of queue slot k as the transfer unit sees it, `QBASE + 8*k` (44_dma_streaming_engine.md R214). -/
def slotAddress (p : Params) (k : Nat) : Nat := p.qbase + 8 * k

/-- QMemRead(addr, 2) (20_memory.md R53): none where the address is no halfword of the queue. -/
def qMemRead (p : Params) (slots : Slots) (addr : Nat) : Option Half :=
  if h : p.qbase ≤ addr ∧ addr - p.qbase < 64 ∧ (addr - p.qbase) % 2 = 0 then
    some (slots[(addr - p.qbase) / 8][((addr - p.qbase) % 8) / 2])
  else none

end Sys2Proof.Machine
end

