-- ==== Sys2Proof/Machine/Ops.lean ====
section
/-! DEFINITION. The named operations the meanings share: the endings of an operation, the capability set of 10_state.md
R41, the framebuffer's ports, the queue, arming a record, the latch, and taking the interrupt (60_exceptions.md R273).
-/

namespace Sys2Proof.Machine

/-- How an operation of the engine ends: at its end, or at a fault, which "ends the operation with no further effect"
(60_exceptions.md R268); what was done before the fault stays (log 7). -/
inductive Run where
  | done (s : State)
  | faulted (s : State)
  deriving DecidableEq, Repr

/-- How a queue operation ends (43_transfer_queue.md R181, R182); an error leaves the state as it was. -/
inductive QResult where
  | ok (s : State)
  | busyError
  | overflowError
  deriving DecidableEq, Repr

/-- `emit(ev)` (00_scope.md R13, 10_state.md R35). -/
def State.emit (s : State) (ev : BusEvent) : State := { s with trace := s.trace ++ [ev] }

/-- `fault(reason)` (60_exceptions.md R268). -/
def State.fault (s : State) (why : FaultReason) : State := { s with faults := s.faults.add why, outcome := .fault why }

/-- A refused CMD write: RESULT becomes REFUSED and nothing else changes (30_encoding.md R79, 60_exceptions.md R264). -/
def State.refuse (s : State) (why : CmdRefusal) : State := { s with result := .refused, outcome := .refused why }

/-- The end of a host command that did its work: RESULT becomes OK (60_exceptions.md R265). -/
def State.commandOk (s : State) : State := { s with result := .ok, outcome := .ok }

/-- The end of an internal operation, which writes no RESULT: what it returns (00_scope.md R15). -/
def State.returns (s : State) (o : OpOutcome) : State := { s with outcome := o }

/-- Writing the framebuffer's rows. -/
def State.setFb (s : State) (fb : Rows) : State := { s with fb := fb }

/-- `serial_enable` (10_state.md R41, 44_dma_streaming_engine.md R248). -/
def State.serialEnable (s : State) : State := { s with shifter := { s.shifter with enabled := true } }

/-- `serial_disable` (10_state.md R41, 44_dma_streaming_engine.md R248): pending words are kept and still reach
the bus, which the spec marks ASSUMED (92_eei_decisions.md D14; log 5). -/
def State.serialDisable (s : State) : State := { s with shifter := { s.shifter with enabled := false } }

/-- `chip_select_assert` (10_state.md R41, 44_dma_streaming_engine.md R250): recorded whether or not the line changes. -/
def State.chipSelectAssert (s : State) : State := { s with cs := .asserted, trace := s.trace ++ [.csAssert] }

/-- `chip_select_deassert` (10_state.md R41, 44_dma_streaming_engine.md R250): the latch (30_encoding.md R84). -/
def State.chipSelectDeassert (s : State) : State := { s with cs := .deasserted, trace := s.trace ++ [.csDeassert] }

/-- `transfer_clear_interrupt`: both flags in one step (44_dma_streaming_engine.md R249). -/
def State.transferClearInterrupt (s : State) : State := { s with tu := { s.tu with tc := false, other := false } }

/-- `transfer_start` (44_dma_streaming_engine.md R241). -/
def State.transferStart (s : State) : State := { s with tu := { s.tu with active := true } }

/-- `transfer_arm(a, n)`; arming an active TU is the fault TU_ARM_ACTIVE (44_dma_streaming_engine.md R240). -/
def State.transferArm (s : State) (a n : Nat) : Run :=
  if s.tu.active then .faulted (s.fault .tuArmActive)
  else .done { s with tu := { s.tu with src := a, n := n, k := 0 } }

/-- Arming queue slot k: 4 halfwords from `QBASE + 8*k` (44_dma_streaming_engine.md R214). -/
def State.armSlot (s : State) (k : Nat) : Run := s.transferArm (slotAddress s.params k) 4

/-- FB_READ on either port (40_framebuffer_memory.md R102); none where the index is above 7. -/
def State.fbRow (s : State) (r : Nat) : Option Word := s.fb[r]?

/-- FB_WRITE on port A (40_framebuffer_memory.md R101); none where the index is above 7. -/
def State.fbSetRow (s : State) (r : Nat) (v : Word) : Option State :=
  if h : r < 8 then some (s.setFb (s.fb.set r v)) else none

/-- Q_RESET (43_transfer_queue.md R181): the slots keep what they hold. -/
def State.qReset (s : State) : QResult :=
  if s.transferIsIdle then .ok { s with queue := { s.queue with count := 0, cursor := 0 } } else .busyError

/-- Q_STAGE(rec) (43_transfer_queue.md R182), BusyError before OverflowError (R183). -/
def State.qStage (s : State) (rec : Record) : QResult :=
  if s.transferIsIdle then
    if h : s.queue.count.val < 8 then
      .ok { s with queue := { s.queue with
        slots := s.queue.slots.set s.queue.count.val rec
        count := ⟨s.queue.count.val + 1, by omega⟩ } }
    else .overflowError
  else .busyError

/-- Q_NEXT (43_transfer_queue.md R184): the slot the cursor is at and the state with the cursor moved on, or none and
no change once the cursor has reached the count. -/
def State.qNext (s : State) : Option (Fin 8 × Record × State) :=
  if h : s.queue.cursor.val < s.queue.count.val then
    some (⟨s.queue.cursor.val, by omega⟩, s.queue.slots[s.queue.cursor.val],
      { s with queue := { s.queue with cursor := ⟨s.queue.cursor.val + 1, by omega⟩ } })
  else none

/-- Staging one framebuffer row after another through SEQ_ROW and Q_STAGE, as FLASH does
(44_dma_streaming_engine.md R211); a queue error there is the fault ENGINE_INVARIANT. -/
def State.stageRows : List (Fin 8) → State → Run
  | [], s => .done s
  | r :: rs, s =>
    match s.qStage (seqRow r.val s.fb[r.val]) with
    | .ok t => State.stageRows rs t
    | .busyError => .faulted (s.fault .engineInvariant)
    | .overflowError => .faulted (s.fault .engineInvariant)

/-- ENG_START (44_dma_streaming_engine.md R213): the next record is armed, chip-select asserted, the transfer started,
in that order; an empty queue is the fault ENGINE_INVARIANT. -/
def State.engineStart (s : State) : Run :=
  match s.qNext with
  | none => .faulted (s.fault .engineInvariant)
  | some (k, _, t) =>
    match t.armSlot k.val with
    | .done u => .done u.chipSelectAssert.transferStart
    | .faulted u => .faulted u

/-- FLASH once it is accepted (44_dma_streaming_engine.md R211): B and E first (90_conflicts.md C5), then the queue is
refilled with all 8 rows, then the first record is started. -/
def State.flashAccept (s : State) : Run :=
  match State.qReset { s with busy := true, engine := .starting } with
  | .ok t =>
    match State.stageRows [0, 1, 2, 3, 4, 5, 6, 7] t with
    | .done u => u.engineStart
    | .faulted u => .faulted u
  | .busyError => .faulted (State.fault { s with busy := true, engine := .starting } .engineInvariant)
  | .overflowError => .faulted (State.fault { s with busy := true, engine := .starting } .engineInvariant)

/-- FINALIZE once its hold is over (44_dma_streaming_engine.md R223): nothing falls between the deassert and the
reassert (70_reset_and_hazards.md R302). -/
def State.latch (s : State) : State :=
  s.serialDisable.chipSelectDeassert.chipSelectAssert.serialEnable

/-- The end of a stream: the second latch where EXTRA_FINAL_LATCH asks for it (44_dma_streaming_engine.md R224), then B
and E (R222). -/
def State.endStream (s : State) : State :=
  let t := if s.params.extraFinalLatch then s.latch else s
  { t with busy := false, engine := .idle }

/-- The completion path of ENG_IRQ with E not Idle (44_dma_streaming_engine.md R220, R222): latch, then the next record
is armed and started with no chip-select of its own, or the stream ends. -/
def State.continueStream (s : State) : Run :=
  let t := State.latch { s with engine := .streaming }
  match t.qNext with
  | some (k, _, u) =>
    match u.armSlot k.val with
    | .done v => .done v.transferStart
    | .faulted v => .faulted v
  | none => .done t.endStream

/-- Taking the interrupt (60_exceptions.md R273, R274): one pass of ENG_IRQ (44_dma_streaming_engine.md R220). Nothing
is saved. TU.tc is sampled before both flags are cleared (R249); a pass for another cause does no more (R221). -/
def State.takeInterrupt (s : State) : Run :=
  let t := s.transferClearInterrupt
  if s.transferIsComplete then
    if s.engine = .idle then .faulted (t.fault .spuriousCompletion)
    else t.continueStream
  else .done t

/-- Returning from the interrupt (60_exceptions.md R275): nothing is restored, and the interrupt stays enabled. -/
def State.returnFromInterrupt (s : State) : State := s.returns .ok

/-- One bring-up record of INIT (44_dma_streaming_engine.md R227, R228; 42_protocol_sequencer.md R156): the word once
for every chip, then a latch. -/
def State.bringUpStep (s : State) (h : Half) : State :=
  let t := (((s.emit (.word h)).emit (.word h)).emit (.word h)).emit (.word h)
  t.chipSelectDeassert.chipSelectAssert

/-- `configure()` (44_dma_streaming_engine.md R229). -/
def State.configure (s : State) : State := { s.serialEnable with ie := true }

end Sys2Proof.Machine
end

