-- ==== Sys2Proof/Machine/Environment.lean ====
section
/-! DEFINITION. The environment agents: the transfer unit's steps and the shifter's (44_dma_streaming_engine.md R240 to
R248). A step that is not enabled changes nothing: the agent's turn passes (log 1).
-/

namespace Sys2Proof.Machine

/-- TU_MOVE is enabled (44_dma_streaming_engine.md R242). -/
def State.tuMoveEnabled (s : State) : Bool :=
  s.tu.active && decide (s.tu.k < s.tu.n) && decide (s.shifter.pending.length < s.params.shifterDepth)

/-- TU_MOVE's effect (44_dma_streaming_engine.md R242, R243): one halfword goes to the shifter, and with the last one
the TU becomes idle and raises completion. -/
def State.tuMoveHalf (s : State) (h : Half) : State :=
  { s with
    shifter := { s.shifter with pending := s.shifter.pending ++ [h] }
    tu := { s.tu with
      k := s.tu.k + 1
      active := s.tu.active && decide (s.tu.k + 1 ≠ s.tu.n)
      tc := s.tu.tc || decide (s.tu.k + 1 = s.tu.n) } }

/-- The TU's step MOVE (44_dma_streaming_engine.md R242); an address outside the queue is the fault TU_ADDRESS
(20_memory.md R53). -/
def State.tuMove (s : State) : State :=
  if s.tuMoveEnabled then
    match qMemRead s.params s.queue.slots (s.tu.src + 2 * s.tu.k) with
    | some h => s.tuMoveHalf h
    | none => s.fault .tuAddress
  else s

/-- The TU's step FAIL (44_dma_streaming_engine.md R244). -/
def State.tuFail (s : State) : State :=
  if s.params.tuMayFail && s.tu.active then { s with tu := { s.tu with active := false, other := true } } else s

/-- The TU's step OTHER (44_dma_streaming_engine.md R245). -/
def State.tuOther (s : State) : State :=
  if s.params.tuOtherCauses && s.tu.active then { s with tu := { s.tu with other := true } } else s

/-- The shifter's step SHIFT (44_dma_streaming_engine.md R246). -/
def State.shShift (s : State) : State :=
  match s.shifter.pending with
  | [] => s
  | h :: rest => State.emit { s with shifter := { s.shifter with pending := rest } } (.word h)

end Sys2Proof.Machine
end

