-- ==== Sys2Proof/WellFormed.lean ====
section
/-! DEFINITION. Which operations, accesses and parameters the spec admits.
-/

namespace Sys2Proof

/-- The operand ranges of the opcode table: BMLEN 0 to 8 (30_encoding.md R72), a framebuffer row index 0 to 7
(40_framebuffer_memory.md R101, R102). The other operands admit every value of their type: a record, a row value, the
3-bit index of SEQ_ROW, and the bytes of a bus word (R82 reserves none; which addresses occur depends on R9). -/
def Instr.wf : Instr → Bool
  | .init => true
  | .clear => true
  | .draw n => decide (n ≤ 8#4)
  | .flash => true
  | .fbRead r => decide (r ≤ 7#8)
  | .fbWrite r _ => decide (r ≤ 7#8)
  | .qReset => true
  | .qStage _ => true
  | .qNext => true
  | .engStart => true
  | .engIrq => true
  | .finalize => true
  | .seqRow _ _ => true
  | .busWord _ _ => true

/-- The accesses the register space takes: aligned, 32 bits, below 0x40 (20_memory.md R55, 30_encoding.md R80). -/
def HostAccess.wf : HostAccess → Bool
  | .write offset size _ => decide (size = .bits32) && decide (offset % 4 = 0) && decide (offset < 0x40)
  | .read offset size => decide (size = .bits32) && decide (offset % 4 = 0) && decide (offset < 0x40)

/-- SHIFTER_DEPTH is "at least 1" (00_scope.md R9; log 18). -/
def Params.wf (p : Params) : Bool := decide (1 ≤ p.shifterDepth)

end Sys2Proof
end

