-- ==== Sys2Proof/Decode.lean ====
section
/-! DEFINITION. The decoder, total on every code word, and the encoder (30_encoding.md R72, R77, R78, R81, R82).
-/

namespace Sys2Proof

/-- CMD's fields (30_encoding.md R72): OP 3:0, BMLEN 7:4, reserved 31:8. -/
def cmdOp (c : Word) : BitVec 4 := c.extractLsb' 0 4

/-- CMD.BMLEN, bits 7:4 (R72). -/
def cmdBmlen (c : Word) : BitVec 4 := c.extractLsb' 4 4

/-- CMD's reserved bits 31:8, which must be 0 (R72). -/
def cmdReserved (c : Word) : BitVec 24 := c.extractLsb' 8 24

/-- Decoding a CMD write, the checks in the order of 30_encoding.md R78 and the first that applies taken. The last two
checks of R78, REINIT and NOT_INIT, read INIT_DONE and stand in the commands' meanings. -/
def decodeCmd (c : Word) : Except CmdRefusal Instr :=
  if cmdReserved c ≠ 0#24 then .error .reservedBits
  else if ¬ (cmdOp c = 0x1#4 ∨ cmdOp c = 0x2#4 ∨ cmdOp c = 0x3#4 ∨ cmdOp c = 0x4#4) then .error .reservedOp
  else if cmdOp c ≠ 0x3#4 ∧ cmdBmlen c ≠ 0#4 then .error .reservedBits
  else if cmdOp c = 0x3#4 ∧ 8#4 < cmdBmlen c then .error .bmlenRange
  else if cmdOp c = 0x1#4 then .ok .init
  else if cmdOp c = 0x2#4 then .ok .clear
  else if cmdOp c = 0x3#4 then .ok (.draw (cmdBmlen c))
  else .ok .flash

/-- The internal decoder (30_encoding.md R77, R81): OP 0x8 to 0xF, each with the operand lanes its rule names; the host's
codes and the reserved ones are not internal operations. -/
def decodeInternal (op : BitVec 4) (lanes : Lanes) : Except CmdRefusal Instr :=
  if op = 0x8#4 then .ok (.fbRead lanes.row)
  else if op = 0x9#4 then .ok (.fbWrite lanes.row lanes.value)
  else if op = 0xA#4 then .ok .qReset
  else if op = 0xB#4 then .ok (.qStage lanes.record)
  else if op = 0xC#4 then .ok .qNext
  else if op = 0xD#4 then .ok .engStart
  else if op = 0xE#4 then .ok .engIrq
  else if op = 0xF#4 then .ok .finalize
  else .error .reservedOp

/-- The decoder of every code space. A bus word is {addr 15:8, data 7:0} (30_encoding.md R82); SEQ_ROW has no OP and is
named by its space (42_protocol_sequencer.md R150). -/
def decode : Code → Except CmdRefusal Instr
  | .cmd w => decodeCmd w
  | .internal op lanes => decodeInternal op lanes
  | .function r v => .ok (.seqRow r v)
  | .wire h => .ok (.busWord (h.extractLsb' 8 8) (h.extractLsb' 0 8))

/-- A CMD word from its fields (30_encoding.md R72): {reserved = 0, BMLEN, OP}. -/
def cmdWord (bmlen op : BitVec 4) : Word := 0#24 ++ (bmlen ++ op)

/-- Operand lanes that carry nothing. -/
def Lanes.zero : Lanes := ⟨0#8, 0#32, Vector.replicate 4 0#16⟩

/-- The code word of an operation, from the same tables (30_encoding.md R72, R77, R81, R82; R150). -/
def encode : Instr → Code
  | .init => .cmd (cmdWord 0#4 0x1#4)
  | .clear => .cmd (cmdWord 0#4 0x2#4)
  | .draw n => .cmd (cmdWord n 0x3#4)
  | .flash => .cmd (cmdWord 0#4 0x4#4)
  | .fbRead r => .internal 0x8#4 { Lanes.zero with row := r }
  | .fbWrite r v => .internal 0x9#4 { Lanes.zero with row := r, value := v }
  | .qReset => .internal 0xA#4 Lanes.zero
  | .qStage rec => .internal 0xB#4 { Lanes.zero with record := rec }
  | .qNext => .internal 0xC#4 Lanes.zero
  | .engStart => .internal 0xD#4 Lanes.zero
  | .engIrq => .internal 0xE#4 Lanes.zero
  | .finalize => .internal 0xF#4 Lanes.zero
  | .seqRow r v => .function r v
  | .busWord addr data => .wire (addr ++ data)

/-- The code word that the opcode table's bits stand for (log 10, log 11). A row of 32 bits is a CMD write; one of 16
bits is a bus word; an internal row gives the 4 bits of OP, so one byte, whose bits 7:4 no OP has, and no operand bits,
so lanes of zeros; SEQ_ROW's row gives no bits at all. -/
def codeOfTableWord (nbits w : Nat) : Option Code :=
  if nbits = 0 then
    if w = 0 then some (.function 0#3 0#32) else none
  else if nbits ≤ 8 then
    if w < 16 then some (.internal (BitVec.ofNat 4 w) Lanes.zero) else none
  else if nbits ≤ 16 then
    if w < 2 ^ 16 then some (.wire (BitVec.ofNat 16 w)) else none
  else
    if w < 2 ^ 32 then some (.cmd (BitVec.ofNat 32 w)) else none

/-- The instruction the decoder reads from the table's bits; none where it refuses them. -/
def decodeTableWord (nbits w : Nat) : Option Instr :=
  match codeOfTableWord nbits w with
  | none => none
  | some c =>
    match decode c with
    | .ok i => some i
    | .error _ => none

end Sys2Proof
end

