-- ==== Sys2Proof/Machine/Compositor.lean ====
section
/-! DEFINITION. bit_compositor: CLEAR and DRAW (41_bit_compositor.md). Both are refused before INIT (30_encoding.md R78).
-/

namespace Sys2Proof.Machine

/-- CLEAR (41_bit_compositor.md R121): all 8 rows 0, RESULT OK. -/
def execClear (s : State) : Host.Outcome State Fault Refusal :=
  if s.initDone then .next (s.setFb (Vector.replicate 8 0#32)).commandOk
  else .next (s.refuse .notInit)

/-- DRAW (41_bit_compositor.md R122, R129), with BMLEN above 8 refused before anything else (30_encoding.md R78). -/
def execDraw (bmlen : BitVec 4) (s : State) : Host.Outcome State Fault Refusal :=
  if 8#4 < bmlen then .next (s.refuse .bmlenRange)
  else if s.initDone then
    .next (s.setFb (drawRows s.drawX s.drawY s.drawWidth (s.bitmap bmlen.toNat) s.fb)).commandOk
  else .next (s.refuse .notInit)

end Sys2Proof.Machine
end

