-- ==== Sys2Proof/Machine/Framebuffer.lean ====
section
/-! DEFINITION. framebuffer_memory: FB_READ and FB_WRITE (40_framebuffer_memory.md).
-/

namespace Sys2Proof.Machine

/-- FB_READ (40_framebuffer_memory.md R102): returns the row, or the fault FB_INDEX. -/
def execFbRead (r : Byte) (s : State) : Host.Outcome State Fault Refusal :=
  match s.fbRow r.toNat with
  | some v => .next (s.returns (.okValue v))
  | none => .next (s.fault .fbIndex)

/-- FB_WRITE (40_framebuffer_memory.md R101): writes the row, or the fault FB_INDEX. -/
def execFbWrite (r : Byte) (v : Word) (s : State) : Host.Outcome State Fault Refusal :=
  match s.fbSetRow r.toNat v with
  | some t => .next (t.returns .ok)
  | none => .next (s.fault .fbIndex)

end Sys2Proof.Machine
end

