-- ==== Sys2Proof/Machine/Sequencer.lean ====
section
/-! DEFINITION. protocol_sequencer: SEQ_ROW (42_protocol_sequencer.md R150) and the bus command word (30_encoding.md R82).
-/

namespace Sys2Proof.Machine

/-- SEQ_ROW (42_protocol_sequencer.md R150): returns the record and changes nothing else (R157; log 11). -/
def execSeqRow (r : BitVec 3) (v : Word) (s : State) : Host.Outcome State Fault Refusal :=
  .next (s.returns (.okRecord (seqRow r.toNat v)))

/-- BUS_WORD (30_encoding.md R82, R84): the word `{addr, data}` is on the bus, a Word event (log 12). -/
def execBusWord (addr data : Byte) (s : State) : Host.Outcome State Fault Refusal :=
  .next ((s.emit (.word (commandWord addr data))).returns .ok)

end Sys2Proof.Machine
end

