-- ==== Sys2Proof/Machine/StreamEngine.lean ====
section
/-! DEFINITION. dma_streaming_engine: INIT, FLASH, ENG_START, ENG_IRQ and FINALIZE (44_dma_streaming_engine.md R210 to R229).
-/

namespace Sys2Proof.Machine

/-- INIT (44_dma_streaming_engine.md R227 to R229), refused once INIT_DONE = 1 (30_encoding.md R78). -/
def execInit (s : State) : Host.Outcome State Fault Refusal :=
  if s.initDone then .next (s.refuse .reinit)
  else
    let t := (bringUpWords s.params).foldl State.bringUpStep s.configure.chipSelectAssert
    .next (State.commandOk { t with initDone := true })

/-- FLASH (44_dma_streaming_engine.md R211, R212), refused before INIT (30_encoding.md R78). A fault ends it before RESULT
is written (60_exceptions.md R268). -/
def execFlash (s : State) : Host.Outcome State Fault Refusal :=
  if s.initDone then
    if s.busy then .next { s with result := .busyError, outcome := .busyError }
    else
      match s.flashAccept with
      | .done t => .next t.commandOk
      | .faulted t => .next t
  else .next (s.refuse .notInit)

/-- ENG_START (44_dma_streaming_engine.md R213). -/
def execEngStart (s : State) : Host.Outcome State Fault Refusal :=
  match s.engineStart with
  | .done t => .next (t.returns .ok)
  | .faulted t => .next t

/-- ENG_IRQ (44_dma_streaming_engine.md R220): while it is not enabled the pass is not taken and nothing changes (log 13). -/
def execEngIrq (s : State) : Host.Outcome State Fault Refusal :=
  if s.irqEnabled then
    match s.takeInterrupt with
    | .done t => .next t.returnFromInterrupt
    | .faulted t => .next t
  else .next s

/-- FINALIZE (44_dma_streaming_engine.md R223): while the shifter holds a word it is held with the serial engine already
disabled, and goes on when it next has its turn (log 13). -/
def execFinalize (s : State) : Host.Outcome State Fault Refusal :=
  if s.serialIsBusy then .next s.serialDisable
  else .next (s.latch.returns .ok)

end Sys2Proof.Machine
end

