-- ==== Sys2Proof/Machine/TransferQueue.lean ====
section
/-! DEFINITION. transfer_queue: Q_RESET, Q_STAGE and Q_NEXT (43_transfer_queue.md). None writes RESULT.
-/

namespace Sys2Proof.Machine

/-- What a queue operation's end is for its caller (43_transfer_queue.md R181, R182): an error changes nothing. -/
def QResult.answer (q : QResult) (s : State) : State :=
  match q with
  | .ok t => t.returns .ok
  | .busyError => s.returns .busyError
  | .overflowError => s.returns .overflowError

/-- Q_RESET (43_transfer_queue.md R181). -/
def execQReset (s : State) : Host.Outcome State Fault Refusal := .next (s.qReset.answer s)

/-- Q_STAGE (43_transfer_queue.md R182). -/
def execQStage (rec : Record) (s : State) : Host.Outcome State Fault Refusal := .next ((s.qStage rec).answer s)

/-- Q_NEXT (43_transfer_queue.md R184): Some(k, Q.rec[k]) or None. -/
def execQNext (s : State) : Host.Outcome State Fault Refusal :=
  match s.qNext with
  | some (k, rec, t) => .next (t.returns (.okSlot k rec))
  | none => .next (s.returns .okNone)

end Sys2Proof.Machine
end

