-- ==== Sys2Proof/Machine/Dispatch.lean ====
section
/-! DEFINITION. One arm for each operation of the opcode table: a direct call of its meaning.
-/

namespace Sys2Proof.Machine

def exec (i : Instr) (s : State) : Host.Outcome State Fault Refusal :=
  match i with
  | .init => Sys2Proof.Machine.execInit s
  | .clear => Sys2Proof.Machine.execClear s
  | .draw bmlen => Sys2Proof.Machine.execDraw bmlen s
  | .flash => Sys2Proof.Machine.execFlash s
  | .fbRead r => Sys2Proof.Machine.execFbRead r s
  | .fbWrite r v => Sys2Proof.Machine.execFbWrite r v s
  | .qReset => Sys2Proof.Machine.execQReset s
  | .qStage rec => Sys2Proof.Machine.execQStage rec s
  | .qNext => Sys2Proof.Machine.execQNext s
  | .engStart => Sys2Proof.Machine.execEngStart s
  | .engIrq => Sys2Proof.Machine.execEngIrq s
  | .finalize => Sys2Proof.Machine.execFinalize s
  | .seqRow r v => Sys2Proof.Machine.execSeqRow r v s
  | .busWord addr data => Sys2Proof.Machine.execBusWord addr data s

end Sys2Proof.Machine
end

