-- ==== Sys2Proof/Machine/HostPort.lean ====
section
/-! DEFINITION. What reaches the block from outside: the register bank (30_encoding.md R70 to R80), the host's script
(R87), and a test bench's codes at the internal decoder (log 14).
-/

namespace Sys2Proof.Machine

/-- The register at a word offset (30_encoding.md R71); none from 0x40 on. -/
def regAt (offset : Nat) : Option HostReg :=
  if offset = 0x00 then some .cmd
  else if offset = 0x04 then some .x
  else if offset = 0x08 then some .y
  else if offset = 0x0C then some .w
  else if offset = 0x10 then some .bm0
  else if offset = 0x14 then some .bm1
  else if offset = 0x18 then some .status
  else if offset = 0x1C then some .reserved
  else if h : 0x20 ≤ offset ∧ offset < 0x40 then some (.fb ⟨(offset - 0x20) / 4, by omega⟩)
  else none

/-- A register's offset (30_encoding.md R71). -/
def regOffset : HostReg → Nat
  | .cmd => 0x00
  | .x => 0x04
  | .y => 0x08
  | .w => 0x0C
  | .bm0 => 0x10
  | .bm1 => 0x14
  | .status => 0x18
  | .reserved => 0x1C
  | .fb r => 0x20 + 4 * r.val

/-- What a register reads as (30_encoding.md R71, R75, R76, R80); no read has a side effect (20_memory.md R57). -/
def State.readReg (s : State) : HostReg → Word
  | .cmd => 0#32
  | .x => s.regX
  | .y => s.regY
  | .w => s.regW
  | .bm0 => s.regBm0
  | .bm1 => s.regBm1
  | .status => s.status
  | .reserved => 0#32
  | .fb r => s.fb[r.val]

/-- A CMD write (30_encoding.md R70, R78): the command runs, or is refused with the decoder's reason (R79). -/
def State.writeCmd (s : State) (w : Word) : Host.Outcome State Fault Refusal :=
  match decode (.cmd w) with
  | .ok i => exec i s
  | .error why => .next (s.refuse why)

/-- A register write (30_encoding.md R71, R80): the operand registers only store (20_memory.md R57); a write to STATUS,
to FB0 to FB7 or to 0x1C is ignored. -/
def State.writeReg (s : State) (r : HostReg) (v : Word) : Host.Outcome State Fault Refusal :=
  match r with
  | .cmd => s.writeCmd v
  | .x => .next { s with regX := v, outcome := .ok }
  | .y => .next { s with regY := v, outcome := .ok }
  | .w => .next { s with regW := v, outcome := .ok }
  | .bm0 => .next { s with regBm0 := v, outcome := .ok }
  | .bm1 => .next { s with regBm1 := v, outcome := .ok }
  | .status => .next (s.returns .ok)
  | .reserved => .next (s.returns .ok)
  | .fb _ => .next (s.returns .ok)

/-- A register read: the host gets the value, and nothing of the block changes (20_memory.md R57). -/
def State.hostRead (s : State) (r : HostReg) : State :=
  { s with host := { s.host with lastRead := s.readReg r }, outcome := .okValue (s.readReg r) }

/-- The register an access names, or why it is refused (20_memory.md R55, 30_encoding.md R80; log 8). -/
def accessReg (offset : Nat) (size : AccessSize) : Except Refusal HostReg :=
  if size ≠ .bits32 then .error .accessWidth
  else if offset % 4 ≠ 0 then .error .accessUnaligned
  else
    match regAt offset with
    | some r => .ok r
    | none => .error .accessRange

/-- One host access, an atomic step (30_encoding.md R80, 20_memory.md R61). -/
def State.hostAccess (s : State) : HostAccess → Host.Outcome State Fault Refusal
  | .write offset size v =>
    match accessReg offset size with
    | .ok r => s.writeReg r v
    | .error why => .refused why
  | .read offset size =>
    match accessReg offset size with
    | .ok r => .next (s.hostRead r)
    | .error why => .refused why

/-- The host going to a line of its script. -/
def State.hostGoto (s : State) (line : Nat) : State := { s with host := { s.host with pc := line } }

/-- One line of the host's script (30_encoding.md R87): an access, and on to the next line; or a branch on the value
last read, which is the host's own. -/
def State.hostLine (s : State) : HostLine → Host.Outcome State Fault Refusal
  | .access a => (s.hostGoto (s.host.pc + 1)).hostAccess a
  | .ifGoto c line => .next (s.hostGoto (if condHolds s.host.lastRead c then line else s.host.pc + 1))

/-- The host's step: none while an interrupt is pending (60_exceptions.md R273), none past the end of its script. -/
def State.hostStep (s : State) : Host.Outcome State Fault Refusal :=
  if s.irqPending then .next s
  else
    match s.host.lines[s.host.pc]? with
    | some line => s.hostLine line
    | none => .next s

/-- An operation that holds (44_dma_streaming_engine.md R220, R223): ENG_IRQ while it is not enabled, FINALIZE while the
shifter is busy (log 13). -/
def State.held (s : State) : Instr → Bool
  | .engIrq => !s.irqEnabled
  | .finalize => s.serialIsBusy
  | _ => false

/-- The test bench's step (log 14): the first code is decoded and its operation run, and the code is taken off unless
the operation holds. A CMD code is a CMD write; another code that names no operation is refused. -/
def State.benchStep (s : State) : Host.Outcome State Fault Refusal :=
  match s.bench with
  | [] => .next s
  | c :: rest =>
    match decode c with
    | .ok i => if s.held i then exec i s else exec i { s with bench := rest }
    | .error why =>
      match c with
      | .cmd _ => .next (State.refuse { s with bench := rest } why)
      | .internal _ _ => .refused (.notInternal why)
      | .function _ _ => .refused (.notInternal why)
      | .wire _ => .refused (.notInternal why)

/-- Whose turn it is: the schedule's first agent, or a free choice once it is empty (00_scope.md R17; log 1). -/
def State.nextAgent (s : State) : Agent :=
  match s.sched with
  | a :: _ => a
  | [] => Config.freeAgent s.turn

/-- The state once the turn is given out. -/
def State.turnTaken (s : State) : State :=
  match s.sched with
  | _ :: rest => { s with sched := rest }
  | [] => { s with turn := s.turn + 1 }

/-- The step of one agent (00_scope.md R17); an agent with no enabled step passes its turn (log 1). -/
def State.agentStep (s : State) : Agent → Host.Outcome State Fault Refusal
  | .host => s.hostStep
  | .bench => s.benchStep
  | .irq => exec .engIrq s
  | .tuMove => .next s.tuMove
  | .tuFail => .next s.tuFail
  | .tuOther => .next s.tuOther
  | .shShift => .next s.shShift

/-- A host script of one CMD write, whose line is next, with no interrupt pending that would make the host wait
(60_exceptions.md R273); the host's turn is next (log 16). -/
def State.withCmd (s : State) (w : Word) : State :=
  { s with
    host := { s.host with lines := [.access (.write (regOffset .cmd) .bits32 w)], pc := 0 }
    tu := if s.irqPending then { s.tu with tc := false, other := false } else s.tu
    sched := .host :: s.sched }

/-- A code at the head of the test bench's port, whose turn is next (log 14, log 16). -/
def State.withBench (s : State) (c : Code) : State :=
  { s with bench := c :: s.bench, sched := .bench :: s.sched }

/-- A code word where the next step fetches it: a CMD word in the host's script, any other at the bench's port (log 16). -/
def State.withCode (s : State) (c : Code) : State :=
  match c with
  | .cmd w => s.withCmd w
  | .internal op lanes => s.withBench (.internal op lanes)
  | .function r v => s.withBench (.function r v)
  | .wire h => s.withBench (.wire h)

end Sys2Proof.Machine
end

