-- ==== Sys2Proof/Machine/Step.lean ====
section
/-! DEFINITION. One step of the machine: one atomic step of one agent (20_memory.md R61).
-/

namespace Sys2Proof.Machine

/-- One step: the agent whose turn it is takes its step (00_scope.md R17, 20_memory.md R61). -/
def step (s : State) : Host.Outcome State Fault Refusal := s.turnTaken.agentStep s.nextAgent

/-- The state with an opcode-table word where the next step fetches its instruction; bits that name no code word change
nothing (log 16). -/
def State.withFetchWord (s : State) (nbits w : Nat) : State :=
  match codeOfTableWord nbits w with
  | some c => s.withCode c
  | none => s

end Sys2Proof.Machine
end

