-- ==== Sys2Proof/Machine/Script.lean ====
section
/-! DEFINITION. The host's script syntax (30_encoding.md R87 to R91) as lists of lines, and the schedule @DRAIN (R92).
-/

namespace Sys2Proof.Machine

/-- `WR <reg>, <value>` (30_encoding.md R87). -/
def scriptWr (r : HostReg) (v : Word) : HostLine := .access (.write (regOffset r) .bits32 v)

/-- `RD <reg>` (30_encoding.md R87). -/
def scriptRd (r : HostReg) : HostLine := .access (.read (regOffset r) .bits32)

/-- `INIT` (30_encoding.md R88). -/
def scriptInit : List HostLine := [scriptWr .cmd 0x00000001#32]

/-- `CLEAR` (30_encoding.md R88). -/
def scriptClear : List HostLine := [scriptWr .cmd 0x00000002#32]

/-- `FLASH` (30_encoding.md R88). -/
def scriptFlash : List HostLine := [scriptWr .cmd 0x00000004#32]

/-- Four bitmap bytes in a register, the first in the most significant place, missing bytes 0 (30_encoding.md R74, R89). -/
def packBytes (bm : List Byte) : Word :=
  bm.getD 0 0#8 ++ (bm.getD 1 0#8 ++ (bm.getD 2 0#8 ++ bm.getD 3 0#8))

/-- `DRAW x, y, w, [b0, ...]` (30_encoding.md R89); none where the assembler refuses it. -/
def scriptDraw (x : Int) (y w : Nat) (bm : List Nat) : Option (List HostLine) :=
  if bm.length ≤ 8 ∧ (∀ b ∈ bm, b ≤ 255) ∧ -2 ^ 31 ≤ x ∧ x ≤ 2 ^ 31 - 1 ∧ y ≤ 2 ^ 32 - 1 ∧ w ≤ 2 ^ 32 - 1 then
    some
      [scriptWr .x (BitVec.ofInt 32 x),
       scriptWr .y (BitVec.ofNat 32 y),
       scriptWr .w (BitVec.ofNat 32 w),
       scriptWr .bm0 (packBytes (bm.map (BitVec.ofNat 8))),
       scriptWr .bm1 (packBytes ((bm.map (BitVec.ofNat 8)).drop 4)),
       scriptWr .cmd (cmdWord (BitVec.ofNat 4 bm.length) 0x3#4)]
  else none

/-- `WAIT_IDLE` standing at a line of the script (30_encoding.md R90). -/
def scriptWaitIdle (line : Nat) : List HostLine := [scriptRd .status, .ifGoto .busy line]

/-- `FLASH_WAIT` standing at a line of the script (30_encoding.md R91). -/
def scriptFlashWait (line : Nat) : List HostLine :=
  [scriptWr .cmd 0x00000004#32, scriptRd .status, .ifGoto (.resultIs .busyError) line]

/-- The environment has come to rest: B = 0, the TU idle, the shifter empty, no interrupt cause pending, enabled or not
(30_encoding.md R92, 00_scope.md R18). -/
def State.envAtRest (s : State) : Bool :=
  !s.busy && s.transferIsIdle && !s.serialIsBusy && !s.causePending

/-- The agent the fixed schedule of 95_test_vectors.md takes next for @DRAIN: ENG_IRQ if enabled, otherwise the shifter
if a word is pending, otherwise the TU's MOVE; the schedule is one fair order among those of 30_encoding.md R92. -/
def State.drainAgent (s : State) : Agent :=
  if s.irqEnabled then .irq else if s.serialIsBusy then .shShift else .tuMove

/-- @DRAIN for at most a number of environment steps (30_encoding.md R92). -/
def State.drain : Nat → State → Host.Outcome State Fault Refusal
  | 0, s => .next s
  | fuel + 1, s =>
    if s.envAtRest then .next s
    else
      match s.agentStep s.drainAgent with
      | .next t => State.drain fuel t
      | .fault why => .fault why
      | .refused why => .refused why

end Sys2Proof.Machine
end

