-- ==== Sys2Proof/Safety.lean ====
section
/-! DEFINITION. What a safe run is: the invariant of the block, the end of a run (00_scope.md R18), the stall
(60_exceptions.md R284), fair runs (44_dma_streaming_engine.md R251), and what a stream still has to put on the bus (44_dma_streaming_engine.md R225).
-/

namespace Sys2Proof.Machine

/-- The transfer unit serves the record before the cursor (44_dma_streaming_engine.md R213, R214, R222, R243): its
address and count are that record's, while it is active halfwords are left, and completion means that none is left. -/
structure State.InStream (s : State) : Prop where
  taken : 1 ≤ s.queue.cursor.val
  armed : s.tu.src = slotAddress s.params (s.queue.cursor.val - 1)
  length : s.tu.n = 4
  progress : s.tu.k ≤ 4
  moving : s.tu.active = true → s.tu.k < 4
  complete : s.tu.tc = true ↔ s.tu.k = 4

/-- Nothing is in flight: with E Idle no transfer, no cause and no word is pending (20_memory.md R61). -/
structure State.AtRest (s : State) : Prop where
  idle : s.tu.active = false
  noCompletion : s.tu.tc = false
  noOther : s.tu.other = false
  shifted : s.shifter.pending = []

/-- The invariant of the block as its host uses it, with nothing at the test bench's port. -/
structure State.Inv (s : State) : Prop where
  /-- Internal operations run only inside the block (30_encoding.md R81). -/
  benchEmpty : s.bench = []
  /-- Every fault is unreachable (60_exceptions.md R268, R269). -/
  noFault : s.faults = FaultMark.empty
  /-- B = 1 exactly when E ≠ Idle (10_state.md R27, 44_dma_streaming_engine.md R210). -/
  busyEngine : s.busy = true ↔ s.engine ≠ .idle
  /-- Q.cursor ≤ Q.count (10_state.md R25). -/
  cursorCount : s.queue.cursor ≤ s.queue.count
  /-- SH.pending holds at most SHIFTER_DEPTH entries (10_state.md R31). -/
  shifterRoom : s.shifter.pending.length ≤ s.params.shifterDepth
  /-- IE is set by INIT and never cleared (10_state.md R30). -/
  enableInit : s.ie = s.initDone
  /-- The serial engine is enabled between steps once INIT has run (44_dma_streaming_engine.md R223, R229). -/
  serialInit : s.shifter.enabled = s.initDone
  /-- CS is Unknown until INIT drives it and Asserted between steps after it (10_state.md R32; R223, R227). -/
  selectInit : s.cs = if s.initDone then .asserted else .unknown
  /-- Before INIT no stream runs (30_encoding.md R78). -/
  idleBeforeInit : s.initDone = false → s.engine = .idle
  atRest : s.engine = .idle → s.AtRest
  inStream : s.engine ≠ .idle → s.InStream

/-- A run is over (00_scope.md R18): the host has no more lines, the environment is at rest, and no fault is marked
(10_state.md R36; log 21). -/
def State.runOver (s : State) : Bool :=
  decide (s.host.lines.length ≤ s.host.pc) && s.envAtRest && !s.faults.nonEmpty

/-- The stream has stopped without completion (60_exceptions.md R284, 44_dma_streaming_engine.md R244). -/
structure State.Stalled (s : State) : Prop where
  benchEmpty : s.bench = []
  busy : s.busy = true
  streaming : s.engine ≠ .idle
  stopped : s.tu.active = false
  noCompletion : s.tu.tc = false

/-- An agent's step is enabled (44_dma_streaming_engine.md R220, R242 to R246; 60_exceptions.md R273). -/
def State.agentEnabled (s : State) : Agent → Bool
  | .host => !s.irqPending && decide (s.host.pc < s.host.lines.length)
  | .bench => !s.bench.isEmpty
  | .irq => s.irqEnabled
  | .tuMove => s.tuMoveEnabled
  | .tuFail => s.params.tuMayFail && s.tu.active
  | .tuOther => s.params.tuOtherCauses && s.tu.active
  | .shShift => s.serialIsBusy

/-- A run without end under weak fairness of the transfer unit, the shifter and ENG_IRQ: "a step that stays enabled is
eventually taken" (44_dma_streaming_engine.md R251). -/
structure FairRun (run : Nat → State) : Prop where
  steps : ∀ n, step (run n) = .next (run (n + 1))
  fair : ∀ a ∈ [Agent.tuMove, Agent.shShift, Agent.irq], ∀ n, ∃ m, n ≤ m ∧
    ((run m).agentEnabled a = false ∨ (run m).nextAgent = a)

/-- A record on the bus: its 4 words in order, then one latch (30_encoding.md R83, 44_dma_streaming_engine.md R225). -/
def recordEvents (rec : Record) : List BusEvent := rec.toList.map .word ++ [.csDeassert, .csAssert]

/-- The second latch of a stream's last record, where EXTRA_FINAL_LATCH asks for it (44_dma_streaming_engine.md R224). -/
def extraLatch (p : Params) : List BusEvent := if p.extraFinalLatch then [.csDeassert, .csAssert] else []

/-- What a stream that completes still puts on the bus: the words in the shifter, the rest of the record in flight and
its latch, then the staged records from the cursor on (44_dma_streaming_engine.md R225). -/
def State.remaining (s : State) : List BusEvent :=
  if s.engine = .idle then s.shifter.pending.map .word
  else
    s.shifter.pending.map .word
      ++ (s.queue.slots[s.queue.cursor.val - 1].toList.drop s.tu.k).map .word
      ++ [.csDeassert, .csAssert]
      ++ ((s.queue.slots.toList.take s.queue.count.val).drop s.queue.cursor.val).flatMap recordEvents
      ++ extraLatch s.params

/-- Every latch of a trace is followed at once by the reassert (70_reset_and_hazards.md R302). -/
def latchesPaired : List BusEvent → Bool
  | [] => true
  | .csDeassert :: .csAssert :: rest => latchesPaired rest
  | .csDeassert :: _ => false
  | .csAssert :: rest => latchesPaired rest
  | .word _ :: rest => latchesPaired rest

/-- The bus events of INIT: chip-select asserted, then for each bring-up word a record of it and a latch
(44_dma_streaming_engine.md R227, 42_protocol_sequencer.md R156). -/
def bringUpEvents (p : Params) : List BusEvent :=
  .csAssert :: (bringUpWords p).flatMap fun h => recordEvents (Vector.replicate 4 h)

/-- The bus events of one FLASH of a framebuffer (44_dma_streaming_engine.md R211, R225). -/
def frameEvents (p : Params) (fb : Rows) : List BusEvent :=
  .csAssert :: ((Vector.ofFn fun r : Fin 8 => seqRow r.val fb[r.val]).toList.flatMap recordEvents ++ extraLatch p)

/-- The turns that stream one record on the fixed schedule of 95_test_vectors.md: each of its 4 halfwords is moved and
shifted, then the interrupt is taken. -/
def recordTurns : List Agent :=
  [.tuMove, .shShift, .tuMove, .shShift, .tuMove, .shShift, .tuMove, .shShift, .irq]

end Sys2Proof.Machine
end

