-- ==== Sys2Proof/Certificates/Slice0/Obligations.lean ====
section
/-! DEFINITION. The statements for the provers. Each docstring names the rules of spec/ it formalises. The fields
`outcome`, `host`, `bench`, `sched`, `turn` and `params` are the model's own (log 1, log 2, log 9, log 14, log 15).
-/

open Sys2Proof Sys2Proof.Machine

/-! ### Encoding -/

/-- Decode and encode agree on every operation (30_encoding.md R72, R77, R81, R82). The operand lanes of the internal
operations are the model's choice (log 10, log 11). -/
def Obligations.DecodeOfEncodeIsTheInstruction : Prop :=
  ∀ i : Instr, i.wf = true → decode (encode i) = .ok i

/-- A CMD word, a bus word or a SEQ_ROW code that decodes is the encoding of what it decodes to: no bit is dropped
(30_encoding.md R72, R82). An internal code may carry lanes its operation does not read (log 10); the code space of SEQ_ROW,
which has no OP code in the spec, is the model's choice (log 11). -/
def Obligations.EncodeOfDecodedWordIsTheWord : Prop :=
  ∀ (c : Code) (i : Instr), decode c = .ok i → (∃ op lanes, c = .internal op lanes) ∨ encode i = c

/-- Words written out from 30_encoding.md R72, R77 and R82, with BMLEN and the reserved bits at their limits. -/
def Obligations.DecodedWordsAreTheSpecs : Prop :=
  decode (.cmd 0b00000000000000000000000000000001#32) = .ok .init ∧
  decode (.cmd 0b00000000000000000000000000000010#32) = .ok .clear ∧
  decode (.cmd 0b00000000000000000000000010000011#32) = .ok (.draw 8) ∧
  decode (.cmd 0b00000000000000000000000010010011#32) = .error .bmlenRange ∧
  decode (.cmd 0b00000000000000000000000000000100#32) = .ok .flash ∧
  decode (.cmd 0b00000000000000000000000100000000#32) = .error .reservedBits ∧
  decode (.cmd 0b00000000000000000000000000010010#32) = .error .reservedBits ∧
  decode (.cmd 0b00000000000000000000000000001101#32) = .error .reservedOp ∧
  decode (.internal 0b1010#4 Lanes.zero) = .ok .qReset ∧
  decode (.internal 0b1110#4 Lanes.zero) = .ok .engIrq ∧
  decode (.wire 0b0000000110101010#16) = .ok (.busWord 0x01 0xAA)

/-- A write of CMD takes the first outcome that applies, in the order of 30_encoding.md R78, on the fields of R72 read as
numbers; a refused one writes RESULT = REFUSED, code 3, and nothing else of the block (R264). -/
def Obligations.CmdWriteTakesTheFirstApplicableOutcome : Prop :=
  resultCode .refused = 3#2 ∧
  ∀ (s : State) (w : Word),
    let refused := fun why => Host.Outcome.next (φ := Fault) (ρ := Refusal)
      { s with result := ResultCode.refused, outcome := .refused why }
    let op := w.toNat % 16
    let len := w.toNat / 16 % 16
    s.hostAccess (.write 0x00 .bits32 w) =
      if w.toNat / 256 ≠ 0 then refused .reservedBits
      else if op = 0 ∨ 4 < op then refused .reservedOp
      else if op ≠ 3 ∧ len ≠ 0 then refused .reservedBits
      else if op = 3 ∧ 8 < len then refused .bmlenRange
      else if op = 1 ∧ s.initDone = true then refused .reinit
      else if op ≠ 1 ∧ s.initDone = false then refused .notInit
      else exec (if op = 1 then .init else if op = 2 then .clear else if op = 3 then .draw (BitVec.ofNat 4 len)
        else .flash) s

/-! ### The register bank -/

/-- STATUS, field by field (30_encoding.md R75). -/
def Obligations.StatusFieldsReadTheState : Prop :=
  ∀ s : State,
    s.status.getLsbD 0 = s.busy ∧
    s.status.extractLsb' 1 2 = (match s.engine with | .idle => 0#2 | .starting => 1#2 | .streaming => 2#2) ∧
    s.status.extractLsb' 3 2 =
      (match s.result with | .ok => 0#2 | .busyError => 1#2 | .overflowError => 2#2 | .refused => 3#2) ∧
    s.status.getLsbD 5 = s.initDone ∧
    (s.status.extractLsb' 6 4).toNat = s.queue.count.val ∧
    (s.status.extractLsb' 10 4).toNat = s.queue.cursor.val ∧
    (s.status.getLsbD 14 = true ↔ s.faults ≠ FaultMark.empty) ∧
    s.status.extractLsb' 15 17 = 0#17

/-- Every register of 30_encoding.md R71 reads as it says, and a read changes nothing of the block (20_memory.md R57). -/
def Obligations.RegisterReadsReturnTheirValue : Prop :=
  ∀ (s : State) (offset : Nat) (v : Word),
    (offset, v) ∈ [(0x00, 0#32), (0x04, s.regX), (0x08, s.regY), (0x0C, s.regW), (0x10, s.regBm0), (0x14, s.regBm1),
      (0x18, s.status), (0x1C, 0#32), (0x20, s.fb[0]), (0x24, s.fb[1]), (0x28, s.fb[2]), (0x2C, s.fb[3]),
      (0x30, s.fb[4]), (0x34, s.fb[5]), (0x38, s.fb[6]), (0x3C, s.fb[7])] →
    s.hostAccess (.read offset .bits32) = .next { s with
      host := { s.host with lastRead := v }, outcome := .okValue v }

/-- Writes of the operand registers store and do no more; writes of STATUS, 0x1C and FB0 to FB7 are ignored
(30_encoding.md R71, R80, 20_memory.md R57). -/
def Obligations.RegisterWritesStoreOrAreIgnored : Prop :=
  ∀ (s : State) (v : Word),
    s.hostAccess (.write 0x04 .bits32 v) = .next { s with regX := v, outcome := .ok } ∧
    s.hostAccess (.write 0x08 .bits32 v) = .next { s with regY := v, outcome := .ok } ∧
    s.hostAccess (.write 0x0C .bits32 v) = .next { s with regW := v, outcome := .ok } ∧
    s.hostAccess (.write 0x10 .bits32 v) = .next { s with regBm0 := v, outcome := .ok } ∧
    s.hostAccess (.write 0x14 .bits32 v) = .next { s with regBm1 := v, outcome := .ok } ∧
    ∀ offset ∈ [0x18, 0x1C, 0x20, 0x24, 0x28, 0x2C, 0x30, 0x34, 0x38, 0x3C],
      s.hostAccess (.write offset .bits32 v) = .next { s with outcome := .ok }

/-- An access of another width, at an unaligned offset or at or above 0x40 is refused (30_encoding.md R80). -/
def Obligations.BadAccessesAreRefused : Prop :=
  ∀ (s : State) (offset : Nat) (size : AccessSize) (v : Word),
    (size ≠ .bits32 →
      s.hostAccess (.read offset size) = .refused .accessWidth ∧
      s.hostAccess (.write offset size v) = .refused .accessWidth) ∧
    (size = .bits32 → offset % 4 ≠ 0 →
      s.hostAccess (.read offset size) = .refused .accessUnaligned ∧
      s.hostAccess (.write offset size v) = .refused .accessUnaligned) ∧
    (size = .bits32 → offset % 4 = 0 → 0x40 ≤ offset →
      s.hostAccess (.read offset size) = .refused .accessRange ∧
      s.hostAccess (.write offset size v) = .refused .accessRange)

/-- Every access the register space takes goes on, whatever word a CMD write holds (30_encoding.md R70, R79, R80). -/
def Obligations.GoodAccessesAnswerANextState : Prop :=
  ∀ (s : State) (a : HostAccess), a.wf = true → ∃ t, s.hostAccess a = .next t

/-! ### Reset and INIT -/

/-- The reset state (70_reset_and_hazards.md R290): every value the rule gives. Q.rec and TU.src, which it leaves
unspecified, are free constants and stand in no clause. -/
def Obligations.ResetLeavesTheSpecifiedState : Prop :=
  let s := State.reset
  (∀ r (h : r < 8), s.fb[r] = 0#32) ∧
  s.regX = 0#32 ∧ s.regY = 0#32 ∧ s.regW = 0#32 ∧ s.regBm0 = 0#32 ∧ s.regBm1 = 0#32 ∧
  s.queue.count = 0 ∧ s.queue.cursor = 0 ∧ s.busy = false ∧ s.engine = .idle ∧
  s.tu.active = false ∧ s.tu.k = 0 ∧ s.tu.n = 0 ∧ s.tu.tc = false ∧ s.tu.other = false ∧ s.ie = false ∧
  s.shifter.enabled = false ∧ s.shifter.pending = [] ∧ s.cs = .unknown ∧ s.initDone = false ∧ s.result = .ok ∧
  s.trace = [] ∧ (∀ why, s.faults.has why = false) ∧ s.status = 0#32

/-- INIT (44_dma_streaming_engine.md R227 to R229; 42_protocol_sequencer.md R154 to R156): on a driver not yet
constructed, the five bring-up words in their order, each once for every chip and then latched, and nothing else changed;
a second INIT is refused. -/
def Obligations.InitSendsTheBringUpSequence : Prop :=
  encode .init = .cmd 0x00000001#32 ∧ ∀ s : State,
    (s.initDone = false → exec .init s = .next { s with
      ie := true
      shifter := { s.shifter with enabled := true }
      cs := .asserted
      trace := s.trace ++ [.csAssert] ++
        ([s.params.addrTest ++ s.params.valTestOff, s.params.addrDecode ++ s.params.valDecodeRaw,
          s.params.addrIntensity ++ s.params.intensity, s.params.addrScanLimit ++ s.params.valScanLimitAll,
          s.params.addrShutdown ++ s.params.valShutdownExit].flatMap fun h : Half =>
            [.word h, .word h, .word h, .word h, .csDeassert, .csAssert])
      initDone := true
      result := .ok
      outcome := .ok }) ∧
    (s.initDone = true → exec .init s = .next { s with result := .refused, outcome := .refused .reinit })

/-- What INIT leaves, from reset (70_reset_and_hazards.md R292): the named fields, 31 bus events, and everything else as
at reset. -/
def Obligations.StateAfterInit : Prop :=
  ∃ events : List BusEvent, events.length = 31 ∧ exec .init State.reset = .next { State.reset with
    initDone := true, ie := true, shifter := { State.reset.shifter with enabled := true }, cs := .asserted,
    trace := events, result := .ok, outcome := .ok }

/-! ### bit_compositor -/

/-- CLEAR (41_bit_compositor.md R121): all 8 rows 0 and RESULT OK, whether or not a stream is in flight; refused before
INIT. -/
def Obligations.ClearZeroesEveryRow : Prop :=
  encode .clear = .cmd 0x00000002#32 ∧ ∀ s : State,
    (s.initDone = true → exec .clear s = .next { s with
      fb := #v[0#32, 0#32, 0#32, 0#32, 0#32, 0#32, 0#32, 0#32], result := .ok, outcome := .ok }) ∧
    (s.initDone = false → exec .clear s = .next { s with result := .refused, outcome := .refused .notInit })

/-- DRAW, its whole pseudocode (41_bit_compositor.md R129) on numbers: nothing but the framebuffer and RESULT changes,
and every row is ORed with the value the pseudocode places there. -/
def Obligations.DrawOrsThePlacedBitmap : Prop :=
  ∀ (s : State) (n : BitVec 4), s.initDone = true → n ≤ 8#4 →
    ∃ t, exec (.draw n) s = .next t ∧
      t = { s with fb := t.fb, result := .ok, outcome := .ok } ∧
      ∀ r (hr : r < 8),
        let i := r - s.regY.toNat
        let w := min s.regW.toNat 8
        let byte := if i < 4 then s.regBm0.toNat / 2 ^ (24 - 8 * i) % 256
          else s.regBm1.toNat / 2 ^ (24 - 8 * (i - 4)) % 256
        let m := byte % 2 ^ w
        let shift : Int := 32 - s.regX.toInt - w
        let p : Nat := if 0 ≤ shift then m * 2 ^ shift.toNat else m / 2 ^ (-shift).toNat
        t.fb[r] = if s.regY.toNat ≤ r ∧ i < n.toNat then s.fb[r] ||| BitVec.ofNat 32 p else s.fb[r]

/-- DRAW column by column (41_bit_compositor.md R130, 00_scope.md R14): column c of a row gets the bitmap's bit
`w − 1 − (c − x)`, and columns left of x or from x + w on get nothing. -/
def Obligations.DrawLightsTheBitmapsColumns : Prop :=
  ∀ (s : State) (n : BitVec 4), s.initDone = true → n ≤ 8#4 →
    ∃ t, exec (.draw n) s = .next t ∧
      ∀ r (hr : r < 8) (c : Nat), c < 32 →
        let w : Int := min s.regW.toNat 8
        let column : Int := c - s.regX.toInt
        t.fb[r].getLsbD (31 - c) = (s.fb[r].getLsbD (31 - c) ||
          (decide (s.regY.toNat ≤ r) && decide (r - s.regY.toNat < n.toNat) && decide (0 ≤ column) && decide (column < w)
            && (bitmapByte s.regBm0 s.regBm1 (r - s.regY.toNat)).getLsbD (w - 1 - column).toNat))

/-- The four properties of 41_bit_compositor.md R132, with the second draw's operands free. -/
def Obligations.DrawAndClearProperties : Prop :=
  ∀ (s : State) (n m : BitVec 4) (x y w b0 b1 : Word), s.initDone = true → n ≤ 8#4 → m ≤ 8#4 →
    let second := fun u : State => { u with regX := x, regY := y, regW := w, regBm0 := b0, regBm1 := b1 }
    (8 ≤ s.regY.toNat → ∃ t, exec (.draw n) s = .next t ∧ t.fb = s.fb) ∧
    (∃ a b ab, exec (.draw n) s = .next a ∧ exec (.draw m) (second s) = .next b ∧
      exec (.draw m) (second a) = .next ab ∧ ∀ r (hr : r < 8), ab.fb[r] = a.fb[r] ||| b.fb[r]) ∧
    (∃ a b c, exec .clear s = .next a ∧ exec (.draw n) a = .next b ∧
      exec (.draw n) { s with fb := State.reset.fb } = .next c ∧ b.fb = c.fb) ∧
    (8 < s.regW.toNat → ∃ a b, exec (.draw n) s = .next a ∧ exec (.draw n) { s with regW := 8#32 } = .next b ∧
      a.fb = b.fb)

/-! ### framebuffer_memory -/

/-- FB_READ returns the row, or marks FB_INDEX (40_framebuffer_memory.md R102, 60_exceptions.md R268). -/
def Obligations.FbReadReturnsTheRow : Prop :=
  ∀ (s : State) (r : Byte),
    (∀ h : r.toNat < 8, exec (.fbRead r) s = .next { s with outcome := .okValue s.fb[r.toNat] }) ∧
    (8 ≤ r.toNat → exec (.fbRead r) s = .next { s with
      faults := { s.faults with fbIndex := true }, outcome := .fault .fbIndex })

/-- FB_WRITE writes its row and no other, or marks FB_INDEX (40_framebuffer_memory.md R101, 60_exceptions.md R268). -/
def Obligations.FbWriteWritesOneRow : Prop :=
  ∀ (s : State) (r : Byte) (v : Word),
    (r.toNat < 8 → ∃ t, exec (.fbWrite r v) s = .next t ∧ t = { s with fb := t.fb, outcome := .ok } ∧
      ∀ q (hq : q < 8), t.fb[q] = if q = r.toNat then v else s.fb[q]) ∧
    (8 ≤ r.toNat → exec (.fbWrite r v) s = .next { s with
      faults := { s.faults with fbIndex := true }, outcome := .fault .fbIndex })

/-! ### protocol_sequencer -/

/-- SEQ_ROW's four words (42_protocol_sequencer.md R150 to R152): the high byte is r + 1, the low byte is the chip's byte
of the row, chip 0 the most significant. That SEQ_ROW, a function used inside FLASH, runs by itself, with a 3-bit index, and
changes nothing but the returned record is the model's choice (log 11); the record stands in `outcome` (log 9). -/
def Obligations.SeqRowAddressesAndSplitsTheRow : Prop :=
  ∀ (s : State) (r : BitVec 3) (v : Word), ∃ rec : Record,
    exec (.seqRow r v) s = .next { s with outcome := .okRecord rec } ∧
    ∀ j (hj : j < 4), rec[j].toNat = (r.toNat + 1) * 256 + v.toNat / 2 ^ ((3 - j) * 8) % 256

/-- A bus word is its address byte above its data byte (30_encoding.md R82), and running it puts that word on the bus
(R84). That it may run by itself is the model's reading (log 12). -/
def Obligations.BusWordIsAddressThenData : Prop :=
  ∀ (s : State) (addr data : Byte), ∃ h : Half, h.toNat = addr.toNat * 256 + data.toNat ∧
    exec (.busWord addr data) s = .next { s with trace := s.trace ++ [.word h], outcome := .ok }

/-! ### transfer_queue -/

/-- Q_RESET empties the queue while the TU is idle and changes nothing while it is active (43_transfer_queue.md R181). -/
def Obligations.QResetEmptiesTheQueue : Prop :=
  ∀ s : State,
    (s.tu.active = false → exec .qReset s = .next { s with
      queue := { s.queue with count := 0, cursor := 0 }, outcome := .ok }) ∧
    (s.tu.active = true → exec .qReset s = .next { s with outcome := .busyError })

/-- Q_STAGE writes the next slot and no other (43_transfer_queue.md R182). -/
def Obligations.QStageAppendsOneRecord : Prop :=
  ∀ (s : State) (rec : Record), s.tu.active = false → s.queue.count.val < 8 →
    ∃ t, exec (.qStage rec) s = .next t ∧ t = { s with queue := t.queue, outcome := .ok } ∧
      t.queue.count.val = s.queue.count.val + 1 ∧ t.queue.cursor = s.queue.cursor ∧
      ∀ k (hk : k < 8), t.queue.slots[k] = if k = s.queue.count.val then rec else s.queue.slots[k]

/-- Q_STAGE's errors change nothing, and BusyError comes before OverflowError (43_transfer_queue.md R182, R183). -/
def Obligations.QStageErrorsChangeNothing : Prop :=
  ∀ (s : State) (rec : Record),
    (s.tu.active = true → exec (.qStage rec) s = .next { s with outcome := .busyError }) ∧
    (s.tu.active = false → s.queue.count = 8 → exec (.qStage rec) s = .next { s with outcome := .overflowError })

/-- Q_NEXT yields the slot at the cursor and moves it on by one, or None and nothing moves (43_transfer_queue.md R184). -/
def Obligations.QNextYieldsInOrder : Prop :=
  ∀ s : State,
    (∀ h : s.queue.cursor.val < s.queue.count.val, ∃ t, exec .qNext s = .next t ∧
      t.queue.cursor.val = s.queue.cursor.val + 1 ∧
      t = { s with
        queue := { s.queue with cursor := t.queue.cursor }
        outcome := .okSlot ⟨s.queue.cursor.val, by omega⟩ s.queue.slots[s.queue.cursor.val] }) ∧
    (s.queue.count.val ≤ s.queue.cursor.val → exec .qNext s = .next { s with outcome := .okNone })

/-! ### dma_streaming_engine -/

/-- An accepted FLASH (44_dma_streaming_engine.md R211, R213, R214): the queue is the frame, row r in slot r, the first
record is armed and started, chip-select asserted, and nothing else changes. -/
def Obligations.FlashSnapshotsTheFrameAndStarts : Prop :=
  ∀ s : State, s.initDone = true → s.busy = false → s.tu.active = false →
    ∃ t, exec .flash s = .next t ∧
      t = { s with
        busy := true
        engine := .starting
        queue := { slots := t.queue.slots, count := 8, cursor := 1 }
        tu := { s.tu with src := s.params.qbase, n := 4, k := 0, active := true }
        cs := .asserted
        trace := s.trace ++ [.csAssert]
        result := .ok
        outcome := .ok } ∧
      ∀ r (hr : r < 8) (j : Nat) (hj : j < 4),
        t.queue.slots[r][j].toNat = (r + 1) * 256 + s.fb[r].toNat / 2 ^ ((3 - j) * 8) % 256

/-- FLASH while B = 1 writes only RESULT (44_dma_streaming_engine.md R212, 60_exceptions.md R261). -/
def Obligations.FlashWhileBusyIsRejected : Prop :=
  ∀ s : State, s.initDone = true → s.busy = true →
    exec .flash s = .next { s with result := .busyError, outcome := .busyError } ∧ resultCode .busyError = 1#2

/-- ENG_START (44_dma_streaming_engine.md R213): arms the record at the cursor, asserts chip-select, starts; an empty
queue marks ENGINE_INVARIANT, an active transfer unit TU_ARM_ACTIVE (R240) with the cursor already moved (log 7). -/
def Obligations.EngStartArmsTheNextRecord : Prop :=
  ∀ s : State,
    (s.tu.active = false → s.queue.cursor.val < s.queue.count.val → ∃ t, exec .engStart s = .next t ∧
      t.queue.cursor.val = s.queue.cursor.val + 1 ∧
      t = { s with
        queue := { s.queue with cursor := t.queue.cursor }
        tu := { s.tu with src := s.params.qbase + 8 * s.queue.cursor.val, n := 4, k := 0, active := true }
        cs := .asserted
        trace := s.trace ++ [.csAssert]
        outcome := .ok }) ∧
    (s.queue.count.val ≤ s.queue.cursor.val → exec .engStart s = .next { s with
      faults := { s.faults with engineInvariant := true }, outcome := .fault .engineInvariant }) ∧
    (s.tu.active = true → s.queue.cursor.val < s.queue.count.val → ∃ t, exec .engStart s = .next t ∧
      t.queue.cursor.val = s.queue.cursor.val + 1 ∧
      t = { s with
        queue := { s.queue with cursor := t.queue.cursor }
        faults := { s.faults with tuArmActive := true }
        outcome := .fault .tuArmActive })

/-- A completion pass with a record left (44_dma_streaming_engine.md R220, R222, R223): one latch, the next record armed
and started with no chip-select of its own, E Streaming, both flags cleared. -/
def Obligations.CompletionPassStartsTheNextRecord : Prop :=
  ∀ s : State, s.ie = true → s.tu.tc = true → s.shifter.pending = [] → s.engine ≠ .idle → s.tu.active = false →
    s.queue.cursor.val < s.queue.count.val →
    ∃ t, exec .engIrq s = .next t ∧
      t.queue.cursor.val = s.queue.cursor.val + 1 ∧
      t = { s with
        engine := .streaming
        queue := { s.queue with cursor := t.queue.cursor }
        tu := { src := s.params.qbase + 8 * s.queue.cursor.val, n := 4, k := 0, active := true, tc := false,
                other := false }
        shifter := { s.shifter with enabled := true }
        cs := .asserted
        trace := s.trace ++ [.csDeassert, .csAssert]
        outcome := .ok }

/-- The completion pass that finds no record left (44_dma_streaming_engine.md R220, R222, R224): one latch, or two where
EXTRA_FINAL_LATCH asks for it, and B and E cleared. -/
def Obligations.LastCompletionPassEndsTheStream : Prop :=
  ∀ s : State, s.ie = true → s.tu.tc = true → s.shifter.pending = [] → s.engine ≠ .idle →
    s.queue.count.val ≤ s.queue.cursor.val →
    exec .engIrq s = .next { s with
      busy := false
      engine := .idle
      tu := { s.tu with tc := false, other := false }
      shifter := { s.shifter with enabled := true }
      cs := .asserted
      trace := s.trace ++ (if s.params.extraFinalLatch then [.csDeassert, .csAssert, .csDeassert, .csAssert]
        else [.csDeassert, .csAssert])
      outcome := .ok }

/-- A pass for another cause clears both flags and changes nothing else of the block (44_dma_streaming_engine.md R221). -/
def Obligations.OtherCausesAreOnlyAcknowledged : Prop :=
  ∀ s : State, s.ie = true → s.tu.tc = false → s.tu.other = true →
    exec .engIrq s = .next { s with tu := { s.tu with tc := false, other := false }, outcome := .ok }

/-- A completion with E Idle marks SPURIOUS_COMPLETION, once the flags are cleared (44_dma_streaming_engine.md R220). -/
def Obligations.SpuriousCompletionIsMarked : Prop :=
  ∀ s : State, s.ie = true → s.tu.tc = true → s.shifter.pending = [] → s.engine = .idle →
    exec .engIrq s = .next { s with
      tu := { s.tu with tc := false, other := false }
      faults := { s.faults with spuriousCompletion := true }
      outcome := .fault .spuriousCompletion }

/-- What an active transfer unit makes of FLASH with B = 0 (44_dma_streaming_engine.md R211) and of a completion pass with
a record left (R220, R240): the faults ENGINE_INVARIANT and TU_ARM_ACTIVE. No run reaches such a state
(60_exceptions.md R269); that what was done before the fault stays, and RESULT is not written, is the model's reading
(log 7). -/
def Obligations.FaultsOfAnActiveUnitAreMarked : Prop :=
  ∀ s : State, s.tu.active = true →
    (s.initDone = true → s.busy = false → exec .flash s = .next { s with
      busy := true
      engine := .starting
      faults := { s.faults with engineInvariant := true }
      outcome := .fault .engineInvariant }) ∧
    (s.ie = true → s.tu.tc = true → s.shifter.pending = [] → s.engine ≠ .idle →
      s.queue.cursor.val < s.queue.count.val →
      ∃ t, exec .engIrq s = .next t ∧ t.queue.cursor.val = s.queue.cursor.val + 1 ∧
        t = { s with
          engine := .streaming
          queue := { s.queue with cursor := t.queue.cursor }
          tu := { s.tu with tc := false, other := false }
          shifter := { s.shifter with enabled := true }
          cs := .asserted
          trace := s.trace ++ [.csDeassert, .csAssert]
          faults := { s.faults with tuArmActive := true }
          outcome := .fault .tuArmActive })

/-- While ENG_IRQ is not enabled (44_dma_streaming_engine.md R220) the pass is not taken: nothing pending, or a
completion that waits for the shifter. -/
def Obligations.InterruptWaitsUntilEnabled : Prop :=
  ∀ s : State, (s.ie = false ∨ (s.tu.tc = false ∧ s.tu.other = false) ∨ (s.tu.tc = true ∧ s.shifter.pending ≠ [])) →
    exec .engIrq s = .next s

/-- FINALIZE (44_dma_streaming_engine.md R223): with the shifter empty one latch, nothing between its two edges; while it
is busy the serial engine is disabled and the operation holds (the hold is the model's reading, log 13). -/
def Obligations.FinalizeLatchesOnceTheShifterIsEmpty : Prop :=
  ∀ s : State,
    (s.shifter.pending = [] → exec .finalize s = .next { s with
      shifter := { s.shifter with enabled := true }, cs := .asserted, trace := s.trace ++ [.csDeassert, .csAssert],
      outcome := .ok }) ∧
    (s.shifter.pending ≠ [] → exec .finalize s = .next { s with shifter := { s.shifter with enabled := false } })

/-! ### The environment -/

/-- TU_MOVE on a record of the queue (44_dma_streaming_engine.md R242, R243, 20_memory.md R53): halfword k of the armed
slot goes to the end of the shifter's queue, and the last one makes the TU idle and raises completion. While MOVE is not
enabled, with the TU idle, every halfword moved or the shifter full, its turn passes (the model's choice, log 1). -/
def Obligations.MoveHandsOverTheNextHalfword : Prop :=
  ∀ s : State,
    (∀ (slot : Nat) (hs : slot < 8) (hk : s.tu.k < 4), s.tu.src = s.params.qbase + 8 * slot → s.tu.n = 4 →
      s.tu.active = true → s.shifter.pending.length < s.params.shifterDepth →
      s.tuMove = { s with
        shifter := { s.shifter with pending := s.shifter.pending ++ [s.queue.slots[slot][s.tu.k]] }
        tu := { s.tu with
          k := s.tu.k + 1
          active := decide (s.tu.k ≠ 3)
          tc := s.tu.tc || decide (s.tu.k = 3) } }) ∧
    (s.tu.active = false ∨ s.tu.n ≤ s.tu.k ∨ s.params.shifterDepth ≤ s.shifter.pending.length → s.tuMove = s)

/-- A halfword address outside the queue, or odd, reads nothing and marks TU_ADDRESS; the others read their halfword
(20_memory.md R53). -/
def Obligations.QueueMemoryEndsAtSixtyFourBytes : Prop :=
  ∀ (s : State) (addr : Nat),
    (∀ k j (hk : k < 8) (hj : j < 4), addr = s.params.qbase + 8 * k + 2 * j →
      qMemRead s.params s.queue.slots addr = some s.queue.slots[k][j]) ∧
    ((addr < s.params.qbase ∨ s.params.qbase + 64 ≤ addr ∨ (addr - s.params.qbase) % 2 ≠ 0) →
      qMemRead s.params s.queue.slots addr = none ∧
      (addr = s.tu.src + 2 * s.tu.k → s.tuMoveEnabled = true → s.tuMove = { s with
        faults := { s.faults with tuAddress := true }, outcome := .fault .tuAddress }))

/-- OTHER raises the other cause and the transfer goes on (44_dma_streaming_engine.md R245). -/
def Obligations.OtherCauseLeavesTheTransfer : Prop :=
  ∀ s : State,
    (s.params.tuOtherCauses = true → s.tu.active = true → s.tuOther = { s with tu := { s.tu with other := true } }) ∧
    (s.params.tuOtherCauses = false ∨ s.tu.active = false → s.tuOther = s)

/-- FAIL stops the transfer without completion (44_dma_streaming_engine.md R244). -/
def Obligations.FailStopsTheTransfer : Prop :=
  ∀ s : State,
    (s.params.tuMayFail = true → s.tu.active = true →
      s.tuFail = { s with tu := { s.tu with active := false, other := true } }) ∧
    (s.params.tuMayFail = false ∨ s.tu.active = false → s.tuFail = s)

/-- SHIFT puts the oldest pending word on the bus (44_dma_streaming_engine.md R246); with none pending it is not enabled and
its turn passes (the model's choice, log 1). -/
def Obligations.ShiftEmitsTheOldestWord : Prop :=
  ∀ s : State,
    (∀ (h : Half) (rest : List Half), s.shifter.pending = h :: rest →
      s.shShift = { s with shifter := { s.shifter with pending := rest }, trace := s.trace ++ [.word h] }) ∧
    (s.shifter.pending = [] → s.shShift = s)

/-! ### The step -/

/-- While an interrupt is pending the host takes no step (60_exceptions.md R273). -/
def Obligations.HostWaitsWhileAnInterruptIsPending : Prop :=
  ∀ (s : State) (rest : List Agent), s.sched = .host :: rest → s.ie = true → (s.tu.tc = true ∨ s.tu.other = true) →
    step s = .next { s with sched := rest }

/-- With no interrupt pending, a CMD write whose word decodes to i, at the host's line, runs i (30_encoding.md R70, R78):
the step is exec of i once the turn is given out and the host has gone to its next line (log 1, log 15). -/
def Obligations.HostStepRunsTheDecodedCommand : Prop :=
  ∀ (s : State) (rest : List Agent) (w : Word) (i : Instr), s.sched = .host :: rest →
    (s.ie = false ∨ (s.tu.tc = false ∧ s.tu.other = false)) →
    s.host.lines[s.host.pc]? = some (.access (.write 0x00 .bits32 w)) → decode (.cmd w) = .ok i →
    step s = exec i { s with sched := rest, host := { s.host with pc := s.host.pc + 1 } }

/-- A code at the test bench's port that decodes to i runs i, and is taken off unless i holds (log 13, log 14). -/
def Obligations.BenchStepRunsTheDecodedOperation : Prop :=
  ∀ (s : State) (rest : List Agent) (c : Code) (codes : List Code) (i : Instr), s.sched = .bench :: rest →
    s.bench = c :: codes → decode c = .ok i →
    (s.held i = false → step s = exec i { s with sched := rest, bench := codes }) ∧
    (s.held i = true → step s = exec i { s with sched := rest })

/-- The engine continuation's turn is one ENG_IRQ pass (44_dma_streaming_engine.md R220, 60_exceptions.md R273). -/
def Obligations.InterruptStepRunsThePass : Prop :=
  ∀ (s : State) (rest : List Agent), s.sched = .irq :: rest → step s = exec .engIrq { s with sched := rest }

/-- The word withFetchWord stores is the one the very next step runs, and the fetch changes nothing that it does not need
(log 16). A CMD word, one of more than 16 bits, changes the host's thread and, where a pending interrupt would make the host
wait, clears the TU's two flags; any other word changes neither, and stays at the bench's port only while it holds (log 13).
-/
def Obligations.FetchedWordRunsNext : Prop :=
  ∀ (s : State) (nbits w : Nat) (i : Instr), decodeTableWord nbits w = some i →
    ∃ u, step (s.withFetchWord nbits w) = exec i u ∧
      u = { s with host := u.host, bench := u.bench, tu := u.tu } ∧
      (16 < nbits → u.bench = s.bench ∧
        u.tu = if s.irqPending = true then { s.tu with tc := false, other := false } else s.tu) ∧
      (nbits ≤ 16 → u.host = s.host ∧ u.tu = s.tu ∧ (s.held i = false → u.bench = s.bench))

/-! ### Rules of the whole machine -/

/-- The invariant of the block (10_state.md R25, R27, R30 to R32; 60_exceptions.md R269) holds at reset. -/
def Obligations.InvariantHoldsAtReset : Prop := State.reset.Inv

/-- Every step keeps the invariant: in particular B = 1 exactly when E ≠ Idle (10_state.md R27), the cursor stays within
the count (R25), and no fault is ever marked (60_exceptions.md R268, R269). -/
def Obligations.EveryStepKeepsTheInvariant : Prop :=
  ∀ s t : State, s.Inv → step s = .next t → t.Inv

/-- Events are only ever appended to the bus trace (10_state.md R35), and a fault reason is never removed (R36). -/
def Obligations.TraceAndFaultMarkOnlyGrow : Prop :=
  ∀ s t : State, step s = .next t →
    (∃ events, t.trace = s.trace ++ events) ∧ ∀ why, s.faults.has why = true → t.faults.has why = true

/-- No bus event ever falls between the CsDeassert and the CsAssert of a latch (70_reset_and_hazards.md R302), from
whichever agent, a test bench's among them. -/
def Obligations.LatchesStayPaired : Prop :=
  ∀ s t : State, latchesPaired s.trace = true → step s = .next t → latchesPaired t.trace = true

/-- The staged records and their count never change while the transfer unit is active (20_memory.md R63,
70_reset_and_hazards.md R300), whoever steps. -/
def Obligations.QueueIsFrozenWhileTheUnitIsActive : Prop :=
  ∀ s t : State, s.tu.active = true → step s = .next t →
    t.queue.slots = s.queue.slots ∧ t.queue.count = s.queue.count

/-- Only the main context touches the framebuffer, the operand registers, INIT_DONE, RESULT and the host's thread
(40_framebuffer_memory.md R104, 10_state.md R22, R33, R34): the other agents of 00_scope.md R17 leave them alone. -/
def Obligations.OnlyTheHostTouchesTheFramebuffer : Prop :=
  ∀ (s t : State) (a : Agent), a ≠ .host → a ≠ .bench → s.agentStep a = .next t →
    t.fb = s.fb ∧ t.regX = s.regX ∧ t.regY = s.regY ∧ t.regW = s.regW ∧ t.regBm0 = s.regBm0 ∧ t.regBm1 = s.regBm1 ∧
    t.initDone = s.initDone ∧ t.ie = s.ie ∧ t.result = s.result ∧ t.host = s.host ∧
    t.queue.slots = s.queue.slots ∧ t.queue.count = s.queue.count

/-- IE and INIT_DONE are never cleared (10_state.md R30, R33), and no step changes the parameters (log 2). -/
def Obligations.EnableAndInitAreNeverCleared : Prop :=
  ∀ s t : State, step s = .next t →
    (s.ie = true → t.ie = true) ∧ (s.initDone = true → t.initDone = true) ∧ t.params = s.params

/-- The engine's transitions are those of 44_dma_streaming_engine.md R210: the host takes it from Idle to Starting, the
interrupt from Starting on and back to Idle; B rises and falls with them (10_state.md R26, R27). -/
def Obligations.EngineMovesOnlyAsTheTableSays : Prop :=
  ∀ s t : State, s.Inv → step s = .next t →
    (t.engine = s.engine ∧ t.busy = s.busy) ∨
    (s.nextAgent = .host ∧ s.engine = .idle ∧ t.engine = .starting ∧ s.busy = false ∧ t.busy = true) ∨
    (s.nextAgent = .irq ∧ s.engine = .starting ∧ t.engine = .streaming ∧ s.busy = true ∧ t.busy = true) ∨
    (s.nextAgent = .irq ∧ s.engine ≠ .idle ∧ t.engine = .idle ∧ s.busy = true ∧ t.busy = false ∧
      s.queue.count ≤ s.queue.cursor)

/-- A stream whose transfer has stopped without completion never goes on (60_exceptions.md R284): the stall is kept by
every step, and every FLASH in it is rejected. -/
def Obligations.AStallIsForever : Prop :=
  ∀ s t : State, s.Stalled →
    (step s = .next t → t.Stalled) ∧
    (s.initDone = true → exec .flash s = .next { s with result := .busyError, outcome := .busyError })

/-- FLASH puts exactly its frame on the way to the bus (44_dma_streaming_engine.md R211, R225, 20_memory.md R68): what is
on the bus and what remains are the old trace and the frame's events. -/
def Obligations.FlashPromisesItsFrame : Prop :=
  ∀ s : State, s.Inv → s.initDone = true → s.busy = false →
    ∃ t, exec .flash s = .next t ∧ t.engine ≠ .idle ∧
      t.trace ++ t.remaining = s.trace ++ frameEvents s.params s.fb

/-- Whatever step is taken while a stream is in flight, the bus trace together with what remains to be sent stays the
same (44_dma_streaming_engine.md R225, R226; 20_memory.md R62, R68): the words, their order and the latches of the frame
in flight depend on no schedule, no drawing and no further FLASH. -/
def Obligations.TheFrameInFlightIsFixed : Prop :=
  ∀ s t : State, s.Inv → s.engine ≠ .idle → step s = .next t → t.trace ++ t.remaining = s.trace ++ s.remaining

/-- A stream started on the record before the cursor takes one completion pass for each record from it on, and puts those
records on the bus in slot order, each followed by one latch (44_dma_streaming_engine.md R225), on the schedule of
95_test_vectors.md; then B = 0 and E = Idle. -/
def Obligations.StreamDrainsEveryStagedRecord : Prop :=
  ∀ (s : State) (passes : Nat) (rest : List Agent), s.Inv → s.params.wf = true → s.engine ≠ .idle →
    s.tu.active = true → s.tu.k = 0 → s.tu.other = false → s.shifter.pending = [] →
    s.queue.count.val + 1 = s.queue.cursor.val + passes →
    s.sched = (List.replicate passes recordTurns).flatten ++ rest →
    ∃ t, Host.Core.run Sys2Proof.core (9 * passes) s = .next t ∧
      t.busy = false ∧ t.engine = .idle ∧ t.queue.cursor = s.queue.count ∧ t.sched = rest ∧
      t.trace = s.trace ++ (s.queue.slots.toList.take s.queue.count.val |>.drop (s.queue.cursor.val - 1)).flatMap recordEvents
        ++ extraLatch s.params

/-- Under weak fairness and with TU_MAY_FAIL false, every stream in flight ends (44_dma_streaming_engine.md R251), and then
the bus has what it promised. No bound on the number of steps is given. -/
def Obligations.FairStreamsEnd : Prop :=
  ∀ run : Nat → State, FairRun run → (run 0).Inv → (run 0).params.wf = true → (run 0).params.tuMayFail = false →
    (run 0).engine ≠ .idle → ((run 0).tu.active = true ∨ (run 0).tu.tc = true) →
    ∃ n, (run n).busy = false ∧ (run n).trace = (run 0).trace ++ (run 0).remaining

/-! ### The host's script -/

/-- The assembler's DRAW (30_encoding.md R89, R74): its six writes draw the operands as they were written down. -/
def Obligations.DrawScriptDrawsItsOperands : Prop :=
  ∀ (s : State) (x : Int) (y w : Nat) (bm : List Nat) (lines : List HostLine) (rest : List Agent),
    scriptDraw x y w bm = some lines → s.initDone = true → s.irqPending = false →
    s.host.lines = lines → s.host.pc = 0 → s.sched = List.replicate 6 .host ++ rest →
    ∃ t, Host.Core.run Sys2Proof.core 6 s = .next t ∧ t.result = .ok ∧ t.queue = s.queue ∧ t.trace = s.trace ∧
      t.fb = drawRows x y w (bm.map (BitVec.ofNat 8)) s.fb

/-- WAIT_IDLE (30_encoding.md R90): a turn to read STATUS and a turn to branch, back to the read while B = 1 and past
the loop once B = 0. -/
def Obligations.WaitIdleLoopsWhileBusy : Prop :=
  ∀ (s : State) (before after : List HostLine) (rest : List Agent), s.irqPending = false →
    s.host.lines = before ++ scriptWaitIdle before.length ++ after → s.host.pc = before.length →
    s.sched = .host :: .host :: rest →
    ∃ t, Host.Core.run Sys2Proof.core 2 s = .next t ∧
      t.host.pc = (if s.busy = true then before.length else before.length + 2) ∧
      t = { s with host := t.host, sched := rest, outcome := .okValue s.status }

/-- FLASH_WAIT (30_encoding.md R91): with a stream in flight its three turns end where they began, with RESULT =
BUSY_ERROR. -/
def Obligations.FlashWaitRetriesWhileBusy : Prop :=
  ∀ (s : State) (before after : List HostLine) (rest : List Agent), s.initDone = true → s.busy = true →
    s.irqPending = false → s.host.lines = before ++ scriptFlashWait before.length ++ after →
    s.host.pc = before.length → s.sched = .host :: .host :: .host :: rest →
    ∃ t, Host.Core.run Sys2Proof.core 3 s = .next t ∧ t.host.pc = before.length ∧
      t = { s with host := t.host, sched := rest, result := .busyError, outcome := t.outcome }
end

