-- ==== Sys2Proof/Laws/State.lean ====
section
/-! SUPPORT. What each named update of the state does to each field, one lemma a field, so that no later proof unfolds a
record update.
-/

namespace Sys2Proof.Machine

@[simp] theorem State.emit_params (s : State) (ev : BusEvent) : (s.emit ev).params = s.params := rfl
@[simp] theorem State.emit_fb (s : State) (ev : BusEvent) : (s.emit ev).fb = s.fb := rfl
@[simp] theorem State.emit_regX (s : State) (ev : BusEvent) : (s.emit ev).regX = s.regX := rfl
@[simp] theorem State.emit_regY (s : State) (ev : BusEvent) : (s.emit ev).regY = s.regY := rfl
@[simp] theorem State.emit_regW (s : State) (ev : BusEvent) : (s.emit ev).regW = s.regW := rfl
@[simp] theorem State.emit_regBm0 (s : State) (ev : BusEvent) : (s.emit ev).regBm0 = s.regBm0 := rfl
@[simp] theorem State.emit_regBm1 (s : State) (ev : BusEvent) : (s.emit ev).regBm1 = s.regBm1 := rfl
@[simp] theorem State.emit_queue (s : State) (ev : BusEvent) : (s.emit ev).queue = s.queue := rfl
@[simp] theorem State.emit_busy (s : State) (ev : BusEvent) : (s.emit ev).busy = s.busy := rfl
@[simp] theorem State.emit_engine (s : State) (ev : BusEvent) : (s.emit ev).engine = s.engine := rfl
@[simp] theorem State.emit_tu (s : State) (ev : BusEvent) : (s.emit ev).tu = s.tu := rfl
@[simp] theorem State.emit_ie (s : State) (ev : BusEvent) : (s.emit ev).ie = s.ie := rfl
@[simp] theorem State.emit_shifter (s : State) (ev : BusEvent) : (s.emit ev).shifter = s.shifter := rfl
@[simp] theorem State.emit_cs (s : State) (ev : BusEvent) : (s.emit ev).cs = s.cs := rfl
@[simp] theorem State.emit_initDone (s : State) (ev : BusEvent) : (s.emit ev).initDone = s.initDone := rfl
@[simp] theorem State.emit_result (s : State) (ev : BusEvent) : (s.emit ev).result = s.result := rfl
@[simp] theorem State.emit_trace (s : State) (ev : BusEvent) : (s.emit ev).trace = s.trace ++ [ev] := rfl
@[simp] theorem State.emit_faults (s : State) (ev : BusEvent) : (s.emit ev).faults = s.faults := rfl
@[simp] theorem State.emit_outcome (s : State) (ev : BusEvent) : (s.emit ev).outcome = s.outcome := rfl
@[simp] theorem State.emit_host (s : State) (ev : BusEvent) : (s.emit ev).host = s.host := rfl
@[simp] theorem State.emit_bench (s : State) (ev : BusEvent) : (s.emit ev).bench = s.bench := rfl
@[simp] theorem State.emit_sched (s : State) (ev : BusEvent) : (s.emit ev).sched = s.sched := rfl
@[simp] theorem State.emit_turn (s : State) (ev : BusEvent) : (s.emit ev).turn = s.turn := rfl

@[simp] theorem State.fault_params (s : State) (why : FaultReason) : (s.fault why).params = s.params := rfl
@[simp] theorem State.fault_fb (s : State) (why : FaultReason) : (s.fault why).fb = s.fb := rfl
@[simp] theorem State.fault_regX (s : State) (why : FaultReason) : (s.fault why).regX = s.regX := rfl
@[simp] theorem State.fault_regY (s : State) (why : FaultReason) : (s.fault why).regY = s.regY := rfl
@[simp] theorem State.fault_regW (s : State) (why : FaultReason) : (s.fault why).regW = s.regW := rfl
@[simp] theorem State.fault_regBm0 (s : State) (why : FaultReason) : (s.fault why).regBm0 = s.regBm0 := rfl
@[simp] theorem State.fault_regBm1 (s : State) (why : FaultReason) : (s.fault why).regBm1 = s.regBm1 := rfl
@[simp] theorem State.fault_queue (s : State) (why : FaultReason) : (s.fault why).queue = s.queue := rfl
@[simp] theorem State.fault_busy (s : State) (why : FaultReason) : (s.fault why).busy = s.busy := rfl
@[simp] theorem State.fault_engine (s : State) (why : FaultReason) : (s.fault why).engine = s.engine := rfl
@[simp] theorem State.fault_tu (s : State) (why : FaultReason) : (s.fault why).tu = s.tu := rfl
@[simp] theorem State.fault_ie (s : State) (why : FaultReason) : (s.fault why).ie = s.ie := rfl
@[simp] theorem State.fault_shifter (s : State) (why : FaultReason) : (s.fault why).shifter = s.shifter := rfl
@[simp] theorem State.fault_cs (s : State) (why : FaultReason) : (s.fault why).cs = s.cs := rfl
@[simp] theorem State.fault_initDone (s : State) (why : FaultReason) : (s.fault why).initDone = s.initDone := rfl
@[simp] theorem State.fault_result (s : State) (why : FaultReason) : (s.fault why).result = s.result := rfl
@[simp] theorem State.fault_trace (s : State) (why : FaultReason) : (s.fault why).trace = s.trace := rfl
@[simp] theorem State.fault_faults (s : State) (why : FaultReason) : (s.fault why).faults = s.faults.add why := rfl
@[simp] theorem State.fault_outcome (s : State) (why : FaultReason) : (s.fault why).outcome = .fault why := rfl
@[simp] theorem State.fault_host (s : State) (why : FaultReason) : (s.fault why).host = s.host := rfl
@[simp] theorem State.fault_bench (s : State) (why : FaultReason) : (s.fault why).bench = s.bench := rfl
@[simp] theorem State.fault_sched (s : State) (why : FaultReason) : (s.fault why).sched = s.sched := rfl
@[simp] theorem State.fault_turn (s : State) (why : FaultReason) : (s.fault why).turn = s.turn := rfl

@[simp] theorem State.refuse_params (s : State) (why : CmdRefusal) : (s.refuse why).params = s.params := rfl
@[simp] theorem State.refuse_fb (s : State) (why : CmdRefusal) : (s.refuse why).fb = s.fb := rfl
@[simp] theorem State.refuse_regX (s : State) (why : CmdRefusal) : (s.refuse why).regX = s.regX := rfl
@[simp] theorem State.refuse_regY (s : State) (why : CmdRefusal) : (s.refuse why).regY = s.regY := rfl
@[simp] theorem State.refuse_regW (s : State) (why : CmdRefusal) : (s.refuse why).regW = s.regW := rfl
@[simp] theorem State.refuse_regBm0 (s : State) (why : CmdRefusal) : (s.refuse why).regBm0 = s.regBm0 := rfl
@[simp] theorem State.refuse_regBm1 (s : State) (why : CmdRefusal) : (s.refuse why).regBm1 = s.regBm1 := rfl
@[simp] theorem State.refuse_queue (s : State) (why : CmdRefusal) : (s.refuse why).queue = s.queue := rfl
@[simp] theorem State.refuse_busy (s : State) (why : CmdRefusal) : (s.refuse why).busy = s.busy := rfl
@[simp] theorem State.refuse_engine (s : State) (why : CmdRefusal) : (s.refuse why).engine = s.engine := rfl
@[simp] theorem State.refuse_tu (s : State) (why : CmdRefusal) : (s.refuse why).tu = s.tu := rfl
@[simp] theorem State.refuse_ie (s : State) (why : CmdRefusal) : (s.refuse why).ie = s.ie := rfl
@[simp] theorem State.refuse_shifter (s : State) (why : CmdRefusal) : (s.refuse why).shifter = s.shifter := rfl
@[simp] theorem State.refuse_cs (s : State) (why : CmdRefusal) : (s.refuse why).cs = s.cs := rfl
@[simp] theorem State.refuse_initDone (s : State) (why : CmdRefusal) : (s.refuse why).initDone = s.initDone := rfl
@[simp] theorem State.refuse_result (s : State) (why : CmdRefusal) : (s.refuse why).result = .refused := rfl
@[simp] theorem State.refuse_trace (s : State) (why : CmdRefusal) : (s.refuse why).trace = s.trace := rfl
@[simp] theorem State.refuse_faults (s : State) (why : CmdRefusal) : (s.refuse why).faults = s.faults := rfl
@[simp] theorem State.refuse_outcome (s : State) (why : CmdRefusal) : (s.refuse why).outcome = .refused why := rfl
@[simp] theorem State.refuse_host (s : State) (why : CmdRefusal) : (s.refuse why).host = s.host := rfl
@[simp] theorem State.refuse_bench (s : State) (why : CmdRefusal) : (s.refuse why).bench = s.bench := rfl
@[simp] theorem State.refuse_sched (s : State) (why : CmdRefusal) : (s.refuse why).sched = s.sched := rfl
@[simp] theorem State.refuse_turn (s : State) (why : CmdRefusal) : (s.refuse why).turn = s.turn := rfl

@[simp] theorem State.commandOk_params (s : State) : (s.commandOk).params = s.params := rfl
@[simp] theorem State.commandOk_fb (s : State) : (s.commandOk).fb = s.fb := rfl
@[simp] theorem State.commandOk_regX (s : State) : (s.commandOk).regX = s.regX := rfl
@[simp] theorem State.commandOk_regY (s : State) : (s.commandOk).regY = s.regY := rfl
@[simp] theorem State.commandOk_regW (s : State) : (s.commandOk).regW = s.regW := rfl
@[simp] theorem State.commandOk_regBm0 (s : State) : (s.commandOk).regBm0 = s.regBm0 := rfl
@[simp] theorem State.commandOk_regBm1 (s : State) : (s.commandOk).regBm1 = s.regBm1 := rfl
@[simp] theorem State.commandOk_queue (s : State) : (s.commandOk).queue = s.queue := rfl
@[simp] theorem State.commandOk_busy (s : State) : (s.commandOk).busy = s.busy := rfl
@[simp] theorem State.commandOk_engine (s : State) : (s.commandOk).engine = s.engine := rfl
@[simp] theorem State.commandOk_tu (s : State) : (s.commandOk).tu = s.tu := rfl
@[simp] theorem State.commandOk_ie (s : State) : (s.commandOk).ie = s.ie := rfl
@[simp] theorem State.commandOk_shifter (s : State) : (s.commandOk).shifter = s.shifter := rfl
@[simp] theorem State.commandOk_cs (s : State) : (s.commandOk).cs = s.cs := rfl
@[simp] theorem State.commandOk_initDone (s : State) : (s.commandOk).initDone = s.initDone := rfl
@[simp] theorem State.commandOk_result (s : State) : (s.commandOk).result = .ok := rfl
@[simp] theorem State.commandOk_trace (s : State) : (s.commandOk).trace = s.trace := rfl
@[simp] theorem State.commandOk_faults (s : State) : (s.commandOk).faults = s.faults := rfl
@[simp] theorem State.commandOk_outcome (s : State) : (s.commandOk).outcome = .ok := rfl
@[simp] theorem State.commandOk_host (s : State) : (s.commandOk).host = s.host := rfl
@[simp] theorem State.commandOk_bench (s : State) : (s.commandOk).bench = s.bench := rfl
@[simp] theorem State.commandOk_sched (s : State) : (s.commandOk).sched = s.sched := rfl
@[simp] theorem State.commandOk_turn (s : State) : (s.commandOk).turn = s.turn := rfl

@[simp] theorem State.returns_params (s : State) (o : OpOutcome) : (s.returns o).params = s.params := rfl
@[simp] theorem State.returns_fb (s : State) (o : OpOutcome) : (s.returns o).fb = s.fb := rfl
@[simp] theorem State.returns_regX (s : State) (o : OpOutcome) : (s.returns o).regX = s.regX := rfl
@[simp] theorem State.returns_regY (s : State) (o : OpOutcome) : (s.returns o).regY = s.regY := rfl
@[simp] theorem State.returns_regW (s : State) (o : OpOutcome) : (s.returns o).regW = s.regW := rfl
@[simp] theorem State.returns_regBm0 (s : State) (o : OpOutcome) : (s.returns o).regBm0 = s.regBm0 := rfl
@[simp] theorem State.returns_regBm1 (s : State) (o : OpOutcome) : (s.returns o).regBm1 = s.regBm1 := rfl
@[simp] theorem State.returns_queue (s : State) (o : OpOutcome) : (s.returns o).queue = s.queue := rfl
@[simp] theorem State.returns_busy (s : State) (o : OpOutcome) : (s.returns o).busy = s.busy := rfl
@[simp] theorem State.returns_engine (s : State) (o : OpOutcome) : (s.returns o).engine = s.engine := rfl
@[simp] theorem State.returns_tu (s : State) (o : OpOutcome) : (s.returns o).tu = s.tu := rfl
@[simp] theorem State.returns_ie (s : State) (o : OpOutcome) : (s.returns o).ie = s.ie := rfl
@[simp] theorem State.returns_shifter (s : State) (o : OpOutcome) : (s.returns o).shifter = s.shifter := rfl
@[simp] theorem State.returns_cs (s : State) (o : OpOutcome) : (s.returns o).cs = s.cs := rfl
@[simp] theorem State.returns_initDone (s : State) (o : OpOutcome) : (s.returns o).initDone = s.initDone := rfl
@[simp] theorem State.returns_result (s : State) (o : OpOutcome) : (s.returns o).result = s.result := rfl
@[simp] theorem State.returns_trace (s : State) (o : OpOutcome) : (s.returns o).trace = s.trace := rfl
@[simp] theorem State.returns_faults (s : State) (o : OpOutcome) : (s.returns o).faults = s.faults := rfl
@[simp] theorem State.returns_outcome (s : State) (o : OpOutcome) : (s.returns o).outcome = o := rfl
@[simp] theorem State.returns_host (s : State) (o : OpOutcome) : (s.returns o).host = s.host := rfl
@[simp] theorem State.returns_bench (s : State) (o : OpOutcome) : (s.returns o).bench = s.bench := rfl
@[simp] theorem State.returns_sched (s : State) (o : OpOutcome) : (s.returns o).sched = s.sched := rfl
@[simp] theorem State.returns_turn (s : State) (o : OpOutcome) : (s.returns o).turn = s.turn := rfl

@[simp] theorem State.setFb_params (s : State) (v : Rows) : (s.setFb v).params = s.params := rfl
@[simp] theorem State.setFb_fb (s : State) (v : Rows) : (s.setFb v).fb = v := rfl
@[simp] theorem State.setFb_regX (s : State) (v : Rows) : (s.setFb v).regX = s.regX := rfl
@[simp] theorem State.setFb_regY (s : State) (v : Rows) : (s.setFb v).regY = s.regY := rfl
@[simp] theorem State.setFb_regW (s : State) (v : Rows) : (s.setFb v).regW = s.regW := rfl
@[simp] theorem State.setFb_regBm0 (s : State) (v : Rows) : (s.setFb v).regBm0 = s.regBm0 := rfl
@[simp] theorem State.setFb_regBm1 (s : State) (v : Rows) : (s.setFb v).regBm1 = s.regBm1 := rfl
@[simp] theorem State.setFb_queue (s : State) (v : Rows) : (s.setFb v).queue = s.queue := rfl
@[simp] theorem State.setFb_busy (s : State) (v : Rows) : (s.setFb v).busy = s.busy := rfl
@[simp] theorem State.setFb_engine (s : State) (v : Rows) : (s.setFb v).engine = s.engine := rfl
@[simp] theorem State.setFb_tu (s : State) (v : Rows) : (s.setFb v).tu = s.tu := rfl
@[simp] theorem State.setFb_ie (s : State) (v : Rows) : (s.setFb v).ie = s.ie := rfl
@[simp] theorem State.setFb_shifter (s : State) (v : Rows) : (s.setFb v).shifter = s.shifter := rfl
@[simp] theorem State.setFb_cs (s : State) (v : Rows) : (s.setFb v).cs = s.cs := rfl
@[simp] theorem State.setFb_initDone (s : State) (v : Rows) : (s.setFb v).initDone = s.initDone := rfl
@[simp] theorem State.setFb_result (s : State) (v : Rows) : (s.setFb v).result = s.result := rfl
@[simp] theorem State.setFb_trace (s : State) (v : Rows) : (s.setFb v).trace = s.trace := rfl
@[simp] theorem State.setFb_faults (s : State) (v : Rows) : (s.setFb v).faults = s.faults := rfl
@[simp] theorem State.setFb_outcome (s : State) (v : Rows) : (s.setFb v).outcome = s.outcome := rfl
@[simp] theorem State.setFb_host (s : State) (v : Rows) : (s.setFb v).host = s.host := rfl
@[simp] theorem State.setFb_bench (s : State) (v : Rows) : (s.setFb v).bench = s.bench := rfl
@[simp] theorem State.setFb_sched (s : State) (v : Rows) : (s.setFb v).sched = s.sched := rfl
@[simp] theorem State.setFb_turn (s : State) (v : Rows) : (s.setFb v).turn = s.turn := rfl

@[simp] theorem State.serialEnable_params (s : State) : (s.serialEnable).params = s.params := rfl
@[simp] theorem State.serialEnable_fb (s : State) : (s.serialEnable).fb = s.fb := rfl
@[simp] theorem State.serialEnable_regX (s : State) : (s.serialEnable).regX = s.regX := rfl
@[simp] theorem State.serialEnable_regY (s : State) : (s.serialEnable).regY = s.regY := rfl
@[simp] theorem State.serialEnable_regW (s : State) : (s.serialEnable).regW = s.regW := rfl
@[simp] theorem State.serialEnable_regBm0 (s : State) : (s.serialEnable).regBm0 = s.regBm0 := rfl
@[simp] theorem State.serialEnable_regBm1 (s : State) : (s.serialEnable).regBm1 = s.regBm1 := rfl
@[simp] theorem State.serialEnable_queue (s : State) : (s.serialEnable).queue = s.queue := rfl
@[simp] theorem State.serialEnable_busy (s : State) : (s.serialEnable).busy = s.busy := rfl
@[simp] theorem State.serialEnable_engine (s : State) : (s.serialEnable).engine = s.engine := rfl
@[simp] theorem State.serialEnable_tu (s : State) : (s.serialEnable).tu = s.tu := rfl
@[simp] theorem State.serialEnable_ie (s : State) : (s.serialEnable).ie = s.ie := rfl
@[simp] theorem State.serialEnable_shifter (s : State) : (s.serialEnable).shifter = { s.shifter with enabled := true } := rfl
@[simp] theorem State.serialEnable_cs (s : State) : (s.serialEnable).cs = s.cs := rfl
@[simp] theorem State.serialEnable_initDone (s : State) : (s.serialEnable).initDone = s.initDone := rfl
@[simp] theorem State.serialEnable_result (s : State) : (s.serialEnable).result = s.result := rfl
@[simp] theorem State.serialEnable_trace (s : State) : (s.serialEnable).trace = s.trace := rfl
@[simp] theorem State.serialEnable_faults (s : State) : (s.serialEnable).faults = s.faults := rfl
@[simp] theorem State.serialEnable_outcome (s : State) : (s.serialEnable).outcome = s.outcome := rfl
@[simp] theorem State.serialEnable_host (s : State) : (s.serialEnable).host = s.host := rfl
@[simp] theorem State.serialEnable_bench (s : State) : (s.serialEnable).bench = s.bench := rfl
@[simp] theorem State.serialEnable_sched (s : State) : (s.serialEnable).sched = s.sched := rfl
@[simp] theorem State.serialEnable_turn (s : State) : (s.serialEnable).turn = s.turn := rfl

@[simp] theorem State.serialDisable_params (s : State) : (s.serialDisable).params = s.params := rfl
@[simp] theorem State.serialDisable_fb (s : State) : (s.serialDisable).fb = s.fb := rfl
@[simp] theorem State.serialDisable_regX (s : State) : (s.serialDisable).regX = s.regX := rfl
@[simp] theorem State.serialDisable_regY (s : State) : (s.serialDisable).regY = s.regY := rfl
@[simp] theorem State.serialDisable_regW (s : State) : (s.serialDisable).regW = s.regW := rfl
@[simp] theorem State.serialDisable_regBm0 (s : State) : (s.serialDisable).regBm0 = s.regBm0 := rfl
@[simp] theorem State.serialDisable_regBm1 (s : State) : (s.serialDisable).regBm1 = s.regBm1 := rfl
@[simp] theorem State.serialDisable_queue (s : State) : (s.serialDisable).queue = s.queue := rfl
@[simp] theorem State.serialDisable_busy (s : State) : (s.serialDisable).busy = s.busy := rfl
@[simp] theorem State.serialDisable_engine (s : State) : (s.serialDisable).engine = s.engine := rfl
@[simp] theorem State.serialDisable_tu (s : State) : (s.serialDisable).tu = s.tu := rfl
@[simp] theorem State.serialDisable_ie (s : State) : (s.serialDisable).ie = s.ie := rfl
@[simp] theorem State.serialDisable_shifter (s : State) : (s.serialDisable).shifter = { s.shifter with enabled := false } := rfl
@[simp] theorem State.serialDisable_cs (s : State) : (s.serialDisable).cs = s.cs := rfl
@[simp] theorem State.serialDisable_initDone (s : State) : (s.serialDisable).initDone = s.initDone := rfl
@[simp] theorem State.serialDisable_result (s : State) : (s.serialDisable).result = s.result := rfl
@[simp] theorem State.serialDisable_trace (s : State) : (s.serialDisable).trace = s.trace := rfl
@[simp] theorem State.serialDisable_faults (s : State) : (s.serialDisable).faults = s.faults := rfl
@[simp] theorem State.serialDisable_outcome (s : State) : (s.serialDisable).outcome = s.outcome := rfl
@[simp] theorem State.serialDisable_host (s : State) : (s.serialDisable).host = s.host := rfl
@[simp] theorem State.serialDisable_bench (s : State) : (s.serialDisable).bench = s.bench := rfl
@[simp] theorem State.serialDisable_sched (s : State) : (s.serialDisable).sched = s.sched := rfl
@[simp] theorem State.serialDisable_turn (s : State) : (s.serialDisable).turn = s.turn := rfl

@[simp] theorem State.chipSelectAssert_params (s : State) : (s.chipSelectAssert).params = s.params := rfl
@[simp] theorem State.chipSelectAssert_fb (s : State) : (s.chipSelectAssert).fb = s.fb := rfl
@[simp] theorem State.chipSelectAssert_regX (s : State) : (s.chipSelectAssert).regX = s.regX := rfl
@[simp] theorem State.chipSelectAssert_regY (s : State) : (s.chipSelectAssert).regY = s.regY := rfl
@[simp] theorem State.chipSelectAssert_regW (s : State) : (s.chipSelectAssert).regW = s.regW := rfl
@[simp] theorem State.chipSelectAssert_regBm0 (s : State) : (s.chipSelectAssert).regBm0 = s.regBm0 := rfl
@[simp] theorem State.chipSelectAssert_regBm1 (s : State) : (s.chipSelectAssert).regBm1 = s.regBm1 := rfl
@[simp] theorem State.chipSelectAssert_queue (s : State) : (s.chipSelectAssert).queue = s.queue := rfl
@[simp] theorem State.chipSelectAssert_busy (s : State) : (s.chipSelectAssert).busy = s.busy := rfl
@[simp] theorem State.chipSelectAssert_engine (s : State) : (s.chipSelectAssert).engine = s.engine := rfl
@[simp] theorem State.chipSelectAssert_tu (s : State) : (s.chipSelectAssert).tu = s.tu := rfl
@[simp] theorem State.chipSelectAssert_ie (s : State) : (s.chipSelectAssert).ie = s.ie := rfl
@[simp] theorem State.chipSelectAssert_shifter (s : State) : (s.chipSelectAssert).shifter = s.shifter := rfl
@[simp] theorem State.chipSelectAssert_cs (s : State) : (s.chipSelectAssert).cs = .asserted := rfl
@[simp] theorem State.chipSelectAssert_initDone (s : State) : (s.chipSelectAssert).initDone = s.initDone := rfl
@[simp] theorem State.chipSelectAssert_result (s : State) : (s.chipSelectAssert).result = s.result := rfl
@[simp] theorem State.chipSelectAssert_trace (s : State) : (s.chipSelectAssert).trace = s.trace ++ [.csAssert] := rfl
@[simp] theorem State.chipSelectAssert_faults (s : State) : (s.chipSelectAssert).faults = s.faults := rfl
@[simp] theorem State.chipSelectAssert_outcome (s : State) : (s.chipSelectAssert).outcome = s.outcome := rfl
@[simp] theorem State.chipSelectAssert_host (s : State) : (s.chipSelectAssert).host = s.host := rfl
@[simp] theorem State.chipSelectAssert_bench (s : State) : (s.chipSelectAssert).bench = s.bench := rfl
@[simp] theorem State.chipSelectAssert_sched (s : State) : (s.chipSelectAssert).sched = s.sched := rfl
@[simp] theorem State.chipSelectAssert_turn (s : State) : (s.chipSelectAssert).turn = s.turn := rfl

@[simp] theorem State.chipSelectDeassert_params (s : State) : (s.chipSelectDeassert).params = s.params := rfl
@[simp] theorem State.chipSelectDeassert_fb (s : State) : (s.chipSelectDeassert).fb = s.fb := rfl
@[simp] theorem State.chipSelectDeassert_regX (s : State) : (s.chipSelectDeassert).regX = s.regX := rfl
@[simp] theorem State.chipSelectDeassert_regY (s : State) : (s.chipSelectDeassert).regY = s.regY := rfl
@[simp] theorem State.chipSelectDeassert_regW (s : State) : (s.chipSelectDeassert).regW = s.regW := rfl
@[simp] theorem State.chipSelectDeassert_regBm0 (s : State) : (s.chipSelectDeassert).regBm0 = s.regBm0 := rfl
@[simp] theorem State.chipSelectDeassert_regBm1 (s : State) : (s.chipSelectDeassert).regBm1 = s.regBm1 := rfl
@[simp] theorem State.chipSelectDeassert_queue (s : State) : (s.chipSelectDeassert).queue = s.queue := rfl
@[simp] theorem State.chipSelectDeassert_busy (s : State) : (s.chipSelectDeassert).busy = s.busy := rfl
@[simp] theorem State.chipSelectDeassert_engine (s : State) : (s.chipSelectDeassert).engine = s.engine := rfl
@[simp] theorem State.chipSelectDeassert_tu (s : State) : (s.chipSelectDeassert).tu = s.tu := rfl
@[simp] theorem State.chipSelectDeassert_ie (s : State) : (s.chipSelectDeassert).ie = s.ie := rfl
@[simp] theorem State.chipSelectDeassert_shifter (s : State) : (s.chipSelectDeassert).shifter = s.shifter := rfl
@[simp] theorem State.chipSelectDeassert_cs (s : State) : (s.chipSelectDeassert).cs = .deasserted := rfl
@[simp] theorem State.chipSelectDeassert_initDone (s : State) : (s.chipSelectDeassert).initDone = s.initDone := rfl
@[simp] theorem State.chipSelectDeassert_result (s : State) : (s.chipSelectDeassert).result = s.result := rfl
@[simp] theorem State.chipSelectDeassert_trace (s : State) : (s.chipSelectDeassert).trace = s.trace ++ [.csDeassert] := rfl
@[simp] theorem State.chipSelectDeassert_faults (s : State) : (s.chipSelectDeassert).faults = s.faults := rfl
@[simp] theorem State.chipSelectDeassert_outcome (s : State) : (s.chipSelectDeassert).outcome = s.outcome := rfl
@[simp] theorem State.chipSelectDeassert_host (s : State) : (s.chipSelectDeassert).host = s.host := rfl
@[simp] theorem State.chipSelectDeassert_bench (s : State) : (s.chipSelectDeassert).bench = s.bench := rfl
@[simp] theorem State.chipSelectDeassert_sched (s : State) : (s.chipSelectDeassert).sched = s.sched := rfl
@[simp] theorem State.chipSelectDeassert_turn (s : State) : (s.chipSelectDeassert).turn = s.turn := rfl

@[simp] theorem State.transferClearInterrupt_params (s : State) : (s.transferClearInterrupt).params = s.params := rfl
@[simp] theorem State.transferClearInterrupt_fb (s : State) : (s.transferClearInterrupt).fb = s.fb := rfl
@[simp] theorem State.transferClearInterrupt_regX (s : State) : (s.transferClearInterrupt).regX = s.regX := rfl
@[simp] theorem State.transferClearInterrupt_regY (s : State) : (s.transferClearInterrupt).regY = s.regY := rfl
@[simp] theorem State.transferClearInterrupt_regW (s : State) : (s.transferClearInterrupt).regW = s.regW := rfl
@[simp] theorem State.transferClearInterrupt_regBm0 (s : State) : (s.transferClearInterrupt).regBm0 = s.regBm0 := rfl
@[simp] theorem State.transferClearInterrupt_regBm1 (s : State) : (s.transferClearInterrupt).regBm1 = s.regBm1 := rfl
@[simp] theorem State.transferClearInterrupt_queue (s : State) : (s.transferClearInterrupt).queue = s.queue := rfl
@[simp] theorem State.transferClearInterrupt_busy (s : State) : (s.transferClearInterrupt).busy = s.busy := rfl
@[simp] theorem State.transferClearInterrupt_engine (s : State) : (s.transferClearInterrupt).engine = s.engine := rfl
@[simp] theorem State.transferClearInterrupt_tu (s : State) : (s.transferClearInterrupt).tu = { s.tu with tc := false, other := false } := rfl
@[simp] theorem State.transferClearInterrupt_ie (s : State) : (s.transferClearInterrupt).ie = s.ie := rfl
@[simp] theorem State.transferClearInterrupt_shifter (s : State) : (s.transferClearInterrupt).shifter = s.shifter := rfl
@[simp] theorem State.transferClearInterrupt_cs (s : State) : (s.transferClearInterrupt).cs = s.cs := rfl
@[simp] theorem State.transferClearInterrupt_initDone (s : State) : (s.transferClearInterrupt).initDone = s.initDone := rfl
@[simp] theorem State.transferClearInterrupt_result (s : State) : (s.transferClearInterrupt).result = s.result := rfl
@[simp] theorem State.transferClearInterrupt_trace (s : State) : (s.transferClearInterrupt).trace = s.trace := rfl
@[simp] theorem State.transferClearInterrupt_faults (s : State) : (s.transferClearInterrupt).faults = s.faults := rfl
@[simp] theorem State.transferClearInterrupt_outcome (s : State) : (s.transferClearInterrupt).outcome = s.outcome := rfl
@[simp] theorem State.transferClearInterrupt_host (s : State) : (s.transferClearInterrupt).host = s.host := rfl
@[simp] theorem State.transferClearInterrupt_bench (s : State) : (s.transferClearInterrupt).bench = s.bench := rfl
@[simp] theorem State.transferClearInterrupt_sched (s : State) : (s.transferClearInterrupt).sched = s.sched := rfl
@[simp] theorem State.transferClearInterrupt_turn (s : State) : (s.transferClearInterrupt).turn = s.turn := rfl

@[simp] theorem State.transferStart_params (s : State) : (s.transferStart).params = s.params := rfl
@[simp] theorem State.transferStart_fb (s : State) : (s.transferStart).fb = s.fb := rfl
@[simp] theorem State.transferStart_regX (s : State) : (s.transferStart).regX = s.regX := rfl
@[simp] theorem State.transferStart_regY (s : State) : (s.transferStart).regY = s.regY := rfl
@[simp] theorem State.transferStart_regW (s : State) : (s.transferStart).regW = s.regW := rfl
@[simp] theorem State.transferStart_regBm0 (s : State) : (s.transferStart).regBm0 = s.regBm0 := rfl
@[simp] theorem State.transferStart_regBm1 (s : State) : (s.transferStart).regBm1 = s.regBm1 := rfl
@[simp] theorem State.transferStart_queue (s : State) : (s.transferStart).queue = s.queue := rfl
@[simp] theorem State.transferStart_busy (s : State) : (s.transferStart).busy = s.busy := rfl
@[simp] theorem State.transferStart_engine (s : State) : (s.transferStart).engine = s.engine := rfl
@[simp] theorem State.transferStart_tu (s : State) : (s.transferStart).tu = { s.tu with active := true } := rfl
@[simp] theorem State.transferStart_ie (s : State) : (s.transferStart).ie = s.ie := rfl
@[simp] theorem State.transferStart_shifter (s : State) : (s.transferStart).shifter = s.shifter := rfl
@[simp] theorem State.transferStart_cs (s : State) : (s.transferStart).cs = s.cs := rfl
@[simp] theorem State.transferStart_initDone (s : State) : (s.transferStart).initDone = s.initDone := rfl
@[simp] theorem State.transferStart_result (s : State) : (s.transferStart).result = s.result := rfl
@[simp] theorem State.transferStart_trace (s : State) : (s.transferStart).trace = s.trace := rfl
@[simp] theorem State.transferStart_faults (s : State) : (s.transferStart).faults = s.faults := rfl
@[simp] theorem State.transferStart_outcome (s : State) : (s.transferStart).outcome = s.outcome := rfl
@[simp] theorem State.transferStart_host (s : State) : (s.transferStart).host = s.host := rfl
@[simp] theorem State.transferStart_bench (s : State) : (s.transferStart).bench = s.bench := rfl
@[simp] theorem State.transferStart_sched (s : State) : (s.transferStart).sched = s.sched := rfl
@[simp] theorem State.transferStart_turn (s : State) : (s.transferStart).turn = s.turn := rfl

@[simp] theorem State.hostGoto_params (s : State) (line : Nat) : (s.hostGoto line).params = s.params := rfl
@[simp] theorem State.hostGoto_fb (s : State) (line : Nat) : (s.hostGoto line).fb = s.fb := rfl
@[simp] theorem State.hostGoto_regX (s : State) (line : Nat) : (s.hostGoto line).regX = s.regX := rfl
@[simp] theorem State.hostGoto_regY (s : State) (line : Nat) : (s.hostGoto line).regY = s.regY := rfl
@[simp] theorem State.hostGoto_regW (s : State) (line : Nat) : (s.hostGoto line).regW = s.regW := rfl
@[simp] theorem State.hostGoto_regBm0 (s : State) (line : Nat) : (s.hostGoto line).regBm0 = s.regBm0 := rfl
@[simp] theorem State.hostGoto_regBm1 (s : State) (line : Nat) : (s.hostGoto line).regBm1 = s.regBm1 := rfl
@[simp] theorem State.hostGoto_queue (s : State) (line : Nat) : (s.hostGoto line).queue = s.queue := rfl
@[simp] theorem State.hostGoto_busy (s : State) (line : Nat) : (s.hostGoto line).busy = s.busy := rfl
@[simp] theorem State.hostGoto_engine (s : State) (line : Nat) : (s.hostGoto line).engine = s.engine := rfl
@[simp] theorem State.hostGoto_tu (s : State) (line : Nat) : (s.hostGoto line).tu = s.tu := rfl
@[simp] theorem State.hostGoto_ie (s : State) (line : Nat) : (s.hostGoto line).ie = s.ie := rfl
@[simp] theorem State.hostGoto_shifter (s : State) (line : Nat) : (s.hostGoto line).shifter = s.shifter := rfl
@[simp] theorem State.hostGoto_cs (s : State) (line : Nat) : (s.hostGoto line).cs = s.cs := rfl
@[simp] theorem State.hostGoto_initDone (s : State) (line : Nat) : (s.hostGoto line).initDone = s.initDone := rfl
@[simp] theorem State.hostGoto_result (s : State) (line : Nat) : (s.hostGoto line).result = s.result := rfl
@[simp] theorem State.hostGoto_trace (s : State) (line : Nat) : (s.hostGoto line).trace = s.trace := rfl
@[simp] theorem State.hostGoto_faults (s : State) (line : Nat) : (s.hostGoto line).faults = s.faults := rfl
@[simp] theorem State.hostGoto_outcome (s : State) (line : Nat) : (s.hostGoto line).outcome = s.outcome := rfl
@[simp] theorem State.hostGoto_host (s : State) (line : Nat) : (s.hostGoto line).host = { s.host with pc := line } := rfl
@[simp] theorem State.hostGoto_bench (s : State) (line : Nat) : (s.hostGoto line).bench = s.bench := rfl
@[simp] theorem State.hostGoto_sched (s : State) (line : Nat) : (s.hostGoto line).sched = s.sched := rfl
@[simp] theorem State.hostGoto_turn (s : State) (line : Nat) : (s.hostGoto line).turn = s.turn := rfl

/-- Giving out the turn touches the schedule and the counter of free choices only. -/
theorem State.turnTaken_eq (s : State) :
    s.turnTaken = { s with sched := s.turnTaken.sched, turn := s.turnTaken.turn } := by
  unfold State.turnTaken; split <;> rfl

@[simp] theorem State.turnTaken_params (s : State) : s.turnTaken.params = s.params := by rw [State.turnTaken_eq]
@[simp] theorem State.turnTaken_fb (s : State) : s.turnTaken.fb = s.fb := by rw [State.turnTaken_eq]
@[simp] theorem State.turnTaken_regX (s : State) : s.turnTaken.regX = s.regX := by rw [State.turnTaken_eq]
@[simp] theorem State.turnTaken_regY (s : State) : s.turnTaken.regY = s.regY := by rw [State.turnTaken_eq]
@[simp] theorem State.turnTaken_regW (s : State) : s.turnTaken.regW = s.regW := by rw [State.turnTaken_eq]
@[simp] theorem State.turnTaken_regBm0 (s : State) : s.turnTaken.regBm0 = s.regBm0 := by rw [State.turnTaken_eq]
@[simp] theorem State.turnTaken_regBm1 (s : State) : s.turnTaken.regBm1 = s.regBm1 := by rw [State.turnTaken_eq]
@[simp] theorem State.turnTaken_queue (s : State) : s.turnTaken.queue = s.queue := by rw [State.turnTaken_eq]
@[simp] theorem State.turnTaken_busy (s : State) : s.turnTaken.busy = s.busy := by rw [State.turnTaken_eq]
@[simp] theorem State.turnTaken_engine (s : State) : s.turnTaken.engine = s.engine := by rw [State.turnTaken_eq]
@[simp] theorem State.turnTaken_tu (s : State) : s.turnTaken.tu = s.tu := by rw [State.turnTaken_eq]
@[simp] theorem State.turnTaken_ie (s : State) : s.turnTaken.ie = s.ie := by rw [State.turnTaken_eq]
@[simp] theorem State.turnTaken_shifter (s : State) : s.turnTaken.shifter = s.shifter := by rw [State.turnTaken_eq]
@[simp] theorem State.turnTaken_cs (s : State) : s.turnTaken.cs = s.cs := by rw [State.turnTaken_eq]
@[simp] theorem State.turnTaken_initDone (s : State) : s.turnTaken.initDone = s.initDone := by rw [State.turnTaken_eq]
@[simp] theorem State.turnTaken_result (s : State) : s.turnTaken.result = s.result := by rw [State.turnTaken_eq]
@[simp] theorem State.turnTaken_trace (s : State) : s.turnTaken.trace = s.trace := by rw [State.turnTaken_eq]
@[simp] theorem State.turnTaken_faults (s : State) : s.turnTaken.faults = s.faults := by rw [State.turnTaken_eq]
@[simp] theorem State.turnTaken_outcome (s : State) : s.turnTaken.outcome = s.outcome := by rw [State.turnTaken_eq]
@[simp] theorem State.turnTaken_host (s : State) : s.turnTaken.host = s.host := by rw [State.turnTaken_eq]
@[simp] theorem State.turnTaken_bench (s : State) : s.turnTaken.bench = s.bench := by rw [State.turnTaken_eq]

theorem State.turnTaken_cons (s : State) (a : Agent) (rest : List Agent) (h : s.sched = a :: rest) :
    s.turnTaken = { s with sched := rest } := by
  simp [State.turnTaken, h]

theorem State.nextAgent_cons (s : State) (a : Agent) (rest : List Agent) (h : s.sched = a :: rest) :
    s.nextAgent = a := by
  simp [State.nextAgent, h]

/-- A latch in one equation (44_dma_streaming_engine.md R223). -/
theorem State.latch_eq (s : State) :
    s.latch = { s with
      shifter := { s.shifter with enabled := true }
      cs := .asserted
      trace := s.trace ++ [.csDeassert, .csAssert] } := by
  simp [State.latch, State.serialDisable, State.serialEnable, State.chipSelectAssert, State.chipSelectDeassert]

@[simp] theorem State.latch_params (s : State) : s.latch.params = s.params := by rw [State.latch_eq]
@[simp] theorem State.latch_fb (s : State) : s.latch.fb = s.fb := by rw [State.latch_eq]
@[simp] theorem State.latch_regX (s : State) : s.latch.regX = s.regX := by rw [State.latch_eq]
@[simp] theorem State.latch_regY (s : State) : s.latch.regY = s.regY := by rw [State.latch_eq]
@[simp] theorem State.latch_regW (s : State) : s.latch.regW = s.regW := by rw [State.latch_eq]
@[simp] theorem State.latch_regBm0 (s : State) : s.latch.regBm0 = s.regBm0 := by rw [State.latch_eq]
@[simp] theorem State.latch_regBm1 (s : State) : s.latch.regBm1 = s.regBm1 := by rw [State.latch_eq]
@[simp] theorem State.latch_queue (s : State) : s.latch.queue = s.queue := by rw [State.latch_eq]
@[simp] theorem State.latch_busy (s : State) : s.latch.busy = s.busy := by rw [State.latch_eq]
@[simp] theorem State.latch_engine (s : State) : s.latch.engine = s.engine := by rw [State.latch_eq]
@[simp] theorem State.latch_tu (s : State) : s.latch.tu = s.tu := by rw [State.latch_eq]
@[simp] theorem State.latch_ie (s : State) : s.latch.ie = s.ie := by rw [State.latch_eq]
@[simp] theorem State.latch_shifter (s : State) : s.latch.shifter = { s.shifter with enabled := true } := by rw [State.latch_eq]
@[simp] theorem State.latch_cs (s : State) : s.latch.cs = .asserted := by rw [State.latch_eq]
@[simp] theorem State.latch_initDone (s : State) : s.latch.initDone = s.initDone := by rw [State.latch_eq]
@[simp] theorem State.latch_result (s : State) : s.latch.result = s.result := by rw [State.latch_eq]
@[simp] theorem State.latch_trace (s : State) : s.latch.trace = s.trace ++ [.csDeassert, .csAssert] := by rw [State.latch_eq]
@[simp] theorem State.latch_faults (s : State) : s.latch.faults = s.faults := by rw [State.latch_eq]
@[simp] theorem State.latch_outcome (s : State) : s.latch.outcome = s.outcome := by rw [State.latch_eq]
@[simp] theorem State.latch_host (s : State) : s.latch.host = s.host := by rw [State.latch_eq]
@[simp] theorem State.latch_bench (s : State) : s.latch.bench = s.bench := by rw [State.latch_eq]
@[simp] theorem State.latch_sched (s : State) : s.latch.sched = s.sched := by rw [State.latch_eq]
@[simp] theorem State.latch_turn (s : State) : s.latch.turn = s.turn := by rw [State.latch_eq]

end Sys2Proof.Machine
end

