-- ==== Sys2Proof/Laws/Ops.lean ====
section
/-! SUPPORT. What each shared operation can do, said once; the provers cite these instead of unfolding the operations.
-/

namespace Sys2Proof.Machine

/-! ### The queue -/

theorem State.qReset_idle (s : State) (h : s.tu.active = false) :
    s.qReset = .ok { s with queue := { s.queue with count := 0, cursor := 0 } } := by
  simp [State.qReset, State.transferIsIdle, h]

theorem State.qReset_active (s : State) (h : s.tu.active = true) : s.qReset = .busyError := by
  simp [State.qReset, State.transferIsIdle, h]

theorem State.qStage_active (s : State) (rec : Record) (h : s.tu.active = true) : s.qStage rec = .busyError := by
  simp [State.qStage, State.transferIsIdle, h]

theorem State.qStage_full (s : State) (rec : Record) (h : s.tu.active = false) (hc : s.queue.count = 8) :
    s.qStage rec = .overflowError := by
  simp [State.qStage, State.transferIsIdle, h, hc]

theorem State.qStage_room (s : State) (rec : Record) (h : s.tu.active = false) (hc : s.queue.count.val < 8) :
    s.qStage rec = .ok { s with queue := { s.queue with
      slots := s.queue.slots.set s.queue.count.val rec, count := ⟨s.queue.count.val + 1, by omega⟩ } } := by
  simp [State.qStage, State.transferIsIdle, h, hc]

/-- Everything Q_STAGE can do (43_transfer_queue.md R182, R183). -/
theorem State.qStage_cases (s : State) (rec : Record) :
    (s.tu.active = true ∧ s.qStage rec = .busyError) ∨
    (s.tu.active = false ∧ s.queue.count = 8 ∧ s.qStage rec = .overflowError) ∨
    (s.tu.active = false ∧ ∃ h : s.queue.count.val < 8, s.qStage rec = .ok { s with queue := { s.queue with
      slots := s.queue.slots.set s.queue.count.val rec, count := ⟨s.queue.count.val + 1, by omega⟩ } }) := by
  cases ha : s.tu.active with
  | true => exact .inl ⟨rfl, s.qStage_active rec ha⟩
  | false =>
    by_cases hc : s.queue.count.val < 8
    · exact .inr (.inr ⟨rfl, hc, s.qStage_room rec ha hc⟩)
    · have hc8 : s.queue.count = 8 := by apply Fin.ext; have := s.queue.count.isLt; simp; omega
      exact .inr (.inl ⟨rfl, hc8, s.qStage_full rec ha hc8⟩)

theorem State.qNext_some (s : State) (h : s.queue.cursor.val < s.queue.count.val) :
    s.qNext = some (⟨s.queue.cursor.val, by omega⟩, s.queue.slots[s.queue.cursor.val],
      { s with queue := { s.queue with cursor := ⟨s.queue.cursor.val + 1, by omega⟩ } }) := by
  simp [State.qNext, h]

theorem State.qNext_none (s : State) (h : s.queue.count.val ≤ s.queue.cursor.val) : s.qNext = none := by
  simp only [State.qNext, Nat.not_lt.mpr h, dite_false]

theorem State.stageRows_cons (r : Fin 8) (rs : List (Fin 8)) (s : State) (h : s.tu.active = false)
    (hc : s.queue.count.val < 8) :
    State.stageRows (r :: rs) s = State.stageRows rs { s with queue := { s.queue with
      slots := s.queue.slots.set s.queue.count.val (seqRow r.val s.fb[r.val])
      count := ⟨s.queue.count.val + 1, by omega⟩ } } := by
  rw [State.stageRows, s.qStage_room _ h hc]

/-- Writing all 8 slots, one after another. -/
theorem slots_set_all (v : Slots) (f : Fin 8 → Record) :
    (((((((v.set 0 (f 0)).set 1 (f 1)).set 2 (f 2)).set 3 (f 3)).set 4 (f 4)).set 5 (f 5)).set 6 (f 6)).set 7 (f 7)
      = Vector.ofFn f := by
  ext1 i hi
  have : i = 0 ∨ i = 1 ∨ i = 2 ∨ i = 3 ∨ i = 4 ∨ i = 5 ∨ i = 6 ∨ i = 7 := by omega
  rcases this with rfl | rfl | rfl | rfl | rfl | rfl | rfl | rfl <;> simp

/-- Staging all 8 rows into a queue just reset, with the TU idle: row r in slot r (44_dma_streaming_engine.md R211). -/
theorem State.stageRows_all (s : State) (h : s.tu.active = false) (hc : s.queue.count = 0) :
    State.stageRows [0, 1, 2, 3, 4, 5, 6, 7] s = .done { s with queue := { s.queue with
      slots := Vector.ofFn fun r : Fin 8 => seqRow r.val s.fb[r.val], count := 8 } } := by
  obtain ⟨p, fb, x, y, w, b0, b1, ⟨sl, c, cu⟩, b, e, tu, ie, sh, cs, i, r, tr, f, o, ho, be, sc, t⟩ := s
  simp only at hc h
  subst hc
  iterate 8 rw [State.stageRows_cons _ _ _ h (by simp)]
  have e8 : (8 : Fin 9) = ⟨8, by omega⟩ := rfl
  simp only [State.stageRows, ← slots_set_all sl, e8, Fin.val_zero, Nat.zero_add, Nat.reduceAdd, Fin.isValue]

theorem State.transferArm_idle (s : State) (a n : Nat) (h : s.tu.active = false) :
    s.transferArm a n = .done { s with tu := { s.tu with src := a, n := n, k := 0 } } := by
  simp [State.transferArm, h]

theorem State.transferArm_active (s : State) (a n : Nat) (h : s.tu.active = true) :
    s.transferArm a n = .faulted (s.fault .tuArmActive) := by
  simp [State.transferArm, h]

/-! ### The engine -/

/-- ENG_START with a record staged and the TU idle (44_dma_streaming_engine.md R213). -/
theorem State.engineStart_ready (s : State) (h : s.tu.active = false) (hc : s.queue.cursor.val < s.queue.count.val) :
    s.engineStart = .done { s with
      queue := { s.queue with cursor := ⟨s.queue.cursor.val + 1, by omega⟩ }
      tu := { s.tu with src := slotAddress s.params s.queue.cursor.val, n := 4, k := 0, active := true }
      cs := .asserted
      trace := s.trace ++ [.csAssert] } := by
  simp [State.engineStart, State.qNext_some s hc, State.armSlot, State.transferArm, h, State.chipSelectAssert,
    State.transferStart]

theorem State.engineStart_empty (s : State) (hc : s.queue.count.val ≤ s.queue.cursor.val) :
    s.engineStart = .faulted (s.fault .engineInvariant) := by
  simp [State.engineStart, State.qNext_none s hc]

/-- An accepted FLASH with the TU idle (44_dma_streaming_engine.md R211). -/
theorem State.flashAccept_idle (s : State) (h : s.tu.active = false) :
    s.flashAccept = .done { s with
      busy := true
      engine := .starting
      queue := { slots := Vector.ofFn fun r : Fin 8 => seqRow r.val s.fb[r.val], count := 8, cursor := 1 }
      tu := { s.tu with src := slotAddress s.params 0, n := 4, k := 0, active := true }
      cs := .asserted
      trace := s.trace ++ [.csAssert] } := by
  unfold State.flashAccept
  rw [State.qReset_idle _ (by exact h)]
  dsimp only
  rw [State.stageRows_all _ (by exact h) rfl]
  dsimp only
  rw [State.engineStart_ready _ (by exact h) (by simp)]
  rfl

/-- FLASH with B = 0 and the TU active, which no run of the block reaches (44_dma_streaming_engine.md R211). -/
theorem State.flashAccept_active (s : State) (h : s.tu.active = true) :
    s.flashAccept = .faulted (State.fault { s with busy := true, engine := .starting } .engineInvariant) := by
  unfold State.flashAccept
  rw [State.qReset_active _ (by exact h)]

/-- The end of a stream in one equation (44_dma_streaming_engine.md R222, R224). -/
theorem State.endStream_eq (s : State) :
    s.endStream = if s.params.extraFinalLatch then { s.latch with busy := false, engine := .idle }
      else { s with busy := false, engine := .idle } := by
  unfold State.endStream; split <;> rfl

/-- The completion path with a record left and the TU idle (44_dma_streaming_engine.md R222). -/
theorem State.continueStream_more (s : State) (h : s.tu.active = false)
    (hc : s.queue.cursor.val < s.queue.count.val) :
    s.continueStream = .done { s with
      engine := .streaming
      queue := { s.queue with cursor := ⟨s.queue.cursor.val + 1, by omega⟩ }
      tu := { s.tu with src := slotAddress s.params s.queue.cursor.val, n := 4, k := 0, active := true }
      shifter := { s.shifter with enabled := true }
      cs := .asserted
      trace := s.trace ++ [.csDeassert, .csAssert] } := by
  unfold State.continueStream
  simp only [State.latch_eq]
  rw [State.qNext_some _ (by exact hc)]
  dsimp only
  rw [State.armSlot, State.transferArm_idle _ _ _ (by exact h)]
  rfl

/-- The completion path with no record left (44_dma_streaming_engine.md R222). -/
theorem State.continueStream_last (s : State) (hc : s.queue.count.val ≤ s.queue.cursor.val) :
    s.continueStream = .done (State.latch { s with engine := .streaming }).endStream := by
  unfold State.continueStream
  dsimp only
  rw [State.qNext_none _ (by simpa using hc)]

/-- The completion path with a record left and the TU active, which no run of the block reaches
(44_dma_streaming_engine.md R240). -/
theorem State.continueStream_active (s : State) (h : s.tu.active = true)
    (hc : s.queue.cursor.val < s.queue.count.val) :
    s.continueStream = .faulted (State.fault { s with
      engine := .streaming
      queue := { s.queue with cursor := ⟨s.queue.cursor.val + 1, by omega⟩ }
      shifter := { s.shifter with enabled := true }
      cs := .asserted
      trace := s.trace ++ [.csDeassert, .csAssert] } .tuArmActive) := by
  unfold State.continueStream
  simp only [State.latch_eq]
  rw [State.qNext_some _ (by exact hc)]
  dsimp only
  rw [State.armSlot, State.transferArm_active _ _ _ (by exact h)]

/-- Everything taking the interrupt can do (44_dma_streaming_engine.md R220, R221). -/
theorem State.takeInterrupt_cases (s : State) :
    (s.tu.tc = false ∧ s.takeInterrupt = .done s.transferClearInterrupt) ∨
    (s.tu.tc = true ∧ s.engine = .idle ∧
      s.takeInterrupt = .faulted (s.transferClearInterrupt.fault .spuriousCompletion)) ∨
    (s.tu.tc = true ∧ s.engine ≠ .idle ∧ s.takeInterrupt = s.transferClearInterrupt.continueStream) := by
  unfold State.takeInterrupt State.transferIsComplete
  cases s.tu.tc <;> by_cases he : s.engine = .idle <;> simp [he]

/-! ### The framebuffer -/

theorem State.fbRow_some (s : State) (r : Nat) (h : r < 8) : s.fbRow r = some s.fb[r] := by
  simp [State.fbRow, h]

theorem State.fbRow_none (s : State) (r : Nat) (h : 8 ≤ r) : s.fbRow r = none := by
  simp [State.fbRow, Nat.not_lt.mpr h]

theorem State.fbSetRow_some (s : State) (r : Nat) (v : Word) (h : r < 8) :
    s.fbSetRow r v = some (s.setFb (s.fb.set r v)) := by
  simp [State.fbSetRow, h]

theorem State.fbSetRow_none (s : State) (r : Nat) (v : Word) (h : 8 ≤ r) : s.fbSetRow r v = none := by
  simp [State.fbSetRow, Nat.not_lt.mpr h]

/-- The row loop, read at one row (41_bit_compositor.md R127, R128). -/
theorem orRows_row (ps : List Word) (y : Nat) (fb : Rows) (r : Nat) (hr : r < 8) :
    (orRows ps y fb)[r] = if y ≤ r then fb[r] ||| ps.getD (r - y) 0#32 else fb[r] := by
  induction ps generalizing y fb with
  | nil => simp [orRows]
  | cons p ps ih =>
    unfold orRows
    split
    · rw [ih, Vector.getElem_set]
      by_cases h1 : y = r
      · subst h1; simp
      · by_cases h2 : y ≤ r
        · have h3 : y + 1 ≤ r := by omega
          have h4 : r - y = (r - (y + 1)) + 1 := by omega
          simp [h1, h2, h3, h4]
        · have h3 : ¬ y + 1 ≤ r := by omega
          simp [h1, h2, h3]
    · have : ¬ y ≤ r := by omega
      simp [this]

/-! ### The environment -/

/-- Everything the TU's MOVE can do (44_dma_streaming_engine.md R242). -/
theorem State.tuMove_cases (s : State) :
    (s.tuMoveEnabled = false ∧ s.tuMove = s) ∨
    (s.tuMoveEnabled = true ∧ qMemRead s.params s.queue.slots (s.tu.src + 2 * s.tu.k) = none ∧
      s.tuMove = s.fault .tuAddress) ∨
    (s.tuMoveEnabled = true ∧ ∃ h, qMemRead s.params s.queue.slots (s.tu.src + 2 * s.tu.k) = some h ∧
      s.tuMove = s.tuMoveHalf h) := by
  unfold State.tuMove
  cases s.tuMoveEnabled with
  | false => simp
  | true =>
    cases qMemRead s.params s.queue.slots (s.tu.src + 2 * s.tu.k) <;> simp

/-- Halfword j of slot k, at its address (20_memory.md R53). -/
theorem qMemRead_half (p : Params) (slots : Slots) (k j : Nat) (hk : k < 8) (hj : j < 4) :
    qMemRead p slots (slotAddress p k + 2 * j) = some slots[k][j] := by
  have h1 : p.qbase ≤ p.qbase + 8 * k + 2 * j := by omega
  have h2 : p.qbase + 8 * k + 2 * j - p.qbase = 8 * k + 2 * j := by omega
  have h3 : (8 * k + 2 * j) / 8 = k := by omega
  have h4 : (8 * k + 2 * j) % 8 / 2 = j := by omega
  have h5 : (8 * k + 2 * j) % 2 = 0 := by omega
  have h6 : 8 * k + 2 * j < 64 := by omega
  simp only [qMemRead, slotAddress, h1, h2, h3, h4, h5, h6, and_self, dite_true]

/-- Everything the TU's FAIL can do (44_dma_streaming_engine.md R244). -/
theorem State.tuFail_cases (s : State) :
    s.tuFail = s ∨ (s.params.tuMayFail = true ∧ s.tu.active = true ∧
      s.tuFail = { s with tu := { s.tu with active := false, other := true } }) := by
  unfold State.tuFail
  cases s.params.tuMayFail <;> cases s.tu.active <;> simp

/-- Everything the TU's OTHER can do (44_dma_streaming_engine.md R245). -/
theorem State.tuOther_cases (s : State) :
    s.tuOther = s ∨ (s.params.tuOtherCauses = true ∧ s.tu.active = true ∧
      s.tuOther = { s with tu := { s.tu with other := true } }) := by
  unfold State.tuOther
  cases s.params.tuOtherCauses <;> cases s.tu.active <;> simp

/-- Everything the shifter's SHIFT can do (44_dma_streaming_engine.md R246). -/
theorem State.shShift_cases (s : State) :
    (s.shifter.pending = [] ∧ s.shShift = s) ∨
    (∃ h rest, s.shifter.pending = h :: rest ∧ s.shShift = { s with
      shifter := { s.shifter with pending := rest }, trace := s.trace ++ [.word h] }) := by
  unfold State.shShift
  cases s.shifter.pending with
  | nil => simp
  | cons h rest => exact .inr ⟨h, rest, rfl, rfl⟩

/-! ### The interrupt's conditions -/

theorem State.irqPending_eq (s : State) : s.irqPending = (s.ie && (s.tu.tc || s.tu.other)) := rfl

theorem State.irqEnabled_eq (s : State) :
    s.irqEnabled = (s.ie && (s.tu.tc || s.tu.other) && (!s.tu.tc || s.shifter.pending.isEmpty)) := by
  simp [State.irqEnabled, State.irqPending, State.causePending, State.transferIsComplete, State.serialIsBusy]

end Sys2Proof.Machine
end

