-- ==== Sys2Proof/Laws/HostPort.lean ====
section
/-! SUPPORT. What a host access, a host step and a step can do, said once.
-/

namespace Sys2Proof.Machine

@[simp] theorem regAt_regOffset (r : HostReg) : regAt (regOffset r) = some r := by
  cases r with
  | fb r =>
    obtain ⟨r, hr⟩ := r
    have h1 : (0x20 + 4 * r - 0x20) / 4 = r := by omega
    have hne : ∀ k, k < 0x20 → 0x20 + 4 * r ≠ k := by omega
    have hin : 0x20 ≤ 0x20 + 4 * r ∧ 0x20 + 4 * r < 0x40 := by omega
    simp only [regOffset, regAt, hne 0x00 (by omega), hne 0x04 (by omega), hne 0x08 (by omega), hne 0x0C (by omega),
      hne 0x10 (by omega), hne 0x14 (by omega), hne 0x18 (by omega), hne 0x1C (by omega), if_false, hin, and_self,
      dite_true, h1]
  | _ => rfl

theorem regOffset_aligned (r : HostReg) : regOffset r % 4 = 0 := by
  cases r with
  | fb r => simp only [regOffset]; omega
  | _ => rfl

/-- An aligned 32-bit access at a register's offset reaches that register (30_encoding.md R71, R80). -/
@[simp] theorem accessReg_regOffset (r : HostReg) : accessReg (regOffset r) .bits32 = .ok r := by
  simp [accessReg, regOffset_aligned]

theorem State.hostAccess_write (s : State) (r : HostReg) (v : Word) :
    s.hostAccess (.write (regOffset r) .bits32 v) = s.writeReg r v := by
  simp [State.hostAccess]

theorem State.hostAccess_read (s : State) (r : HostReg) :
    s.hostAccess (.read (regOffset r) .bits32) = .next (s.hostRead r) := by
  simp [State.hostAccess]

/-- A CMD word is a host command or is refused (30_encoding.md R77, R78). -/
theorem decodeCmd_cases (w : Word) :
    (∃ why, decodeCmd w = .error why) ∨ decodeCmd w = .ok .init ∨ decodeCmd w = .ok .clear ∨
    (∃ n, n ≤ 8#4 ∧ decodeCmd w = .ok (.draw n)) ∨ decodeCmd w = .ok .flash := by
  unfold decodeCmd
  split
  · exact .inl ⟨_, rfl⟩
  · split
    · exact .inl ⟨_, rfl⟩
    · split
      · exact .inl ⟨_, rfl⟩
      · split
        · exact .inl ⟨_, rfl⟩
        · rename_i h
          split
          · exact .inr (.inl rfl)
          · split
            · exact .inr (.inr (.inl rfl))
            · split
              · rename_i h3
                refine .inr (.inr (.inr (.inl ⟨_, ?_, rfl⟩)))
                simpa [h3] using h
              · exact .inr (.inr (.inr (.inr rfl)))

/-- Everything a CMD write can do (30_encoding.md R70, R78, R79). -/
theorem State.writeCmd_cases (s : State) (w : Word) :
    (∃ why, s.writeCmd w = .next (s.refuse why)) ∨ s.writeCmd w = execInit s ∨ s.writeCmd w = execClear s ∨
    (∃ n, n ≤ 8#4 ∧ s.writeCmd w = execDraw n s) ∨ s.writeCmd w = execFlash s := by
  unfold State.writeCmd decode
  rcases decodeCmd_cases w with ⟨why, h⟩ | h | h | ⟨n, hn, h⟩ | h <;> simp only [h]
  · exact .inl ⟨_, rfl⟩
  · exact .inr (.inl rfl)
  · exact .inr (.inr (.inl rfl))
  · exact .inr (.inr (.inr (.inl ⟨n, hn, rfl⟩)))
  · exact .inr (.inr (.inr (.inr rfl)))

/-- Everything a host access that answers a next state can do: a read, an operand register's store, an ignored write,
a refused command, or a command (30_encoding.md R71, R78, R80). -/
theorem State.hostAccess_cases (s t : State) (a : HostAccess) (h : s.hostAccess a = .next t) :
    (∃ r, t = s.hostRead r) ∨ t = s.returns .ok ∨
    (∃ v, t = { s with regX := v, outcome := .ok }) ∨ (∃ v, t = { s with regY := v, outcome := .ok }) ∨
    (∃ v, t = { s with regW := v, outcome := .ok }) ∨ (∃ v, t = { s with regBm0 := v, outcome := .ok }) ∨
    (∃ v, t = { s with regBm1 := v, outcome := .ok }) ∨ (∃ why, t = s.refuse why) ∨
    execInit s = .next t ∨ execClear s = .next t ∨ (∃ n, n ≤ 8#4 ∧ execDraw n s = .next t) ∨ execFlash s = .next t := by
  cases a with
  | read offset size =>
    simp only [State.hostAccess] at h
    split at h
    · cases h; exact .inl ⟨_, rfl⟩
    · cases h
  | write offset size v =>
    simp only [State.hostAccess] at h
    split at h
    · rename_i r _
      cases r <;> simp only [State.writeReg] at h
      case cmd =>
        rcases s.writeCmd_cases v with ⟨why, e⟩ | e | e | ⟨n, hn, e⟩ | e <;> rw [e] at h
        · cases h; simp
        · simp [h]
        · simp [h]
        · exact .inr (.inr (.inr (.inr (.inr (.inr (.inr (.inr (.inr (.inr (.inl ⟨n, hn, h⟩))))))))))
        · simp [h]
      all_goals cases h; simp
    · cases h

/-- Everything the host's step can do: its turn passes, it branches, or it makes an access and goes on to the next line
(30_encoding.md R87, 60_exceptions.md R273). -/
theorem State.hostStep_cases (s t : State) (h : s.hostStep = .next t) :
    t = s ∨ (s.irqPending = false ∧
      ((∃ line, t = s.hostGoto line) ∨ ∃ a, (s.hostGoto (s.host.pc + 1)).hostAccess a = .next t)) := by
  unfold State.hostStep at h
  split at h
  · cases h; exact .inl rfl
  · rename_i hp
    split at h
    · rename_i line _
      cases line with
      | access a => exact .inr ⟨by simpa using hp, .inr ⟨a, h⟩⟩
      | ifGoto c l => cases h; exact .inr ⟨by simpa using hp, .inl ⟨_, rfl⟩⟩
    · cases h; exact .inl rfl

/-- A step gives out the turn and runs the agent whose turn it is. -/
theorem step_cons (s : State) (a : Agent) (rest : List Agent) (h : s.sched = a :: rest) :
    step s = State.agentStep { s with sched := rest } a := by
  rw [step, State.turnTaken_cons s a rest h, State.nextAgent_cons s a rest h]

/-- The space a table word belongs to: a CMD write above 16 bits, another code otherwise (log 10, log 11). -/
theorem codeOfTableWord_space (nbits w : Nat) (c : Code) (h : codeOfTableWord nbits w = some c) :
    (16 < nbits ∧ ∃ v, c = .cmd v) ∨ (nbits ≤ 16 ∧ ∀ v, c ≠ .cmd v) := by
  unfold codeOfTableWord at h
  split at h
  · split at h <;> simp at h
    subst h
    exact .inr ⟨by omega, by simp⟩
  split at h
  · split at h <;> simp at h
    subst h
    exact .inr ⟨by omega, by simp⟩
  split at h
  · split at h <;> simp at h
    subst h
    exact .inr ⟨by omega, by simp⟩
  split at h <;> simp at h
  subst h
  exact .inl ⟨by omega, _, rfl⟩

end Sys2Proof.Machine
end

