-- ==== Sys2Proof/Laws/Exec.lean ====
section
/-! SUPPORT. Everything each meaning can do, said once: whatever next state it answers is one of the named ones.
And when a run is over.
-/

namespace Sys2Proof.Machine

theorem next_inj {s t : State} (h : (Host.Outcome.next s : Host.Outcome State Fault Refusal) = .next t) : s = t := by
  cases h; rfl

/-- INIT: refused, or the whole bring-up (44_dma_streaming_engine.md R227). -/
theorem execInit_cases (s t : State) (h : execInit s = .next t) :
    (s.initDone = true ∧ t = s.refuse .reinit) ∨
    (s.initDone = false ∧ t = { s with
      ie := true
      shifter := { s.shifter with enabled := true }
      cs := .asserted
      trace := s.trace ++ bringUpEvents s.params
      initDone := true
      result := .ok
      outcome := .ok }) := by
  unfold execInit at h
  split at h
  · exact .inl ⟨by assumption, (next_inj h).symm⟩
  · refine .inr ⟨by simp_all, ?_⟩
    rw [← next_inj h]
    simp [bringUpEvents, bringUpWords, State.bringUpStep, State.configure, State.commandOk, State.emit,
      State.chipSelectAssert, State.chipSelectDeassert, State.serialEnable, recordEvents]

/-- CLEAR: refused, or the rows are 0 (41_bit_compositor.md R121). -/
theorem execClear_cases (s t : State) (h : execClear s = .next t) :
    (s.initDone = true ∧ t = (s.setFb (Vector.replicate 8 0#32)).commandOk) ∨
    (s.initDone = false ∧ t = s.refuse .notInit) := by
  unfold execClear at h
  split at h
  · exact .inl ⟨by assumption, (next_inj h).symm⟩
  · exact .inr ⟨by simp_all, (next_inj h).symm⟩

/-- DRAW: refused, or the rows are drawn (41_bit_compositor.md R129). -/
theorem execDraw_cases (n : BitVec 4) (s t : State) (h : execDraw n s = .next t) :
    (s.initDone = true ∧ t = (s.setFb (drawRows s.drawX s.drawY s.drawWidth (s.bitmap n.toNat) s.fb)).commandOk) ∨
    (8#4 < n ∧ t = s.refuse .bmlenRange) ∨ (s.initDone = false ∧ t = s.refuse .notInit) := by
  unfold execDraw at h
  split at h
  · exact .inr (.inl ⟨by assumption, (next_inj h).symm⟩)
  split at h
  · exact .inl ⟨by assumption, (next_inj h).symm⟩
  · exact .inr (.inr ⟨by simp_all, (next_inj h).symm⟩)

/-- FLASH: rejected while busy, accepted, ended by the fault no run reaches, or refused (44_dma_streaming_engine.md
R211, R212). -/
theorem execFlash_cases (s t : State) (h : execFlash s = .next t) :
    (s.initDone = true ∧ s.busy = true ∧ t = { s with result := .busyError, outcome := .busyError }) ∨
    (s.initDone = true ∧ s.busy = false ∧ s.tu.active = false ∧ t = { s with
      busy := true
      engine := .starting
      queue := { slots := Vector.ofFn fun r : Fin 8 => seqRow r.val s.fb[r.val], count := 8, cursor := 1 }
      tu := { s.tu with src := slotAddress s.params 0, n := 4, k := 0, active := true }
      cs := .asserted
      trace := s.trace ++ [.csAssert]
      result := .ok
      outcome := .ok }) ∨
    (s.initDone = true ∧ s.busy = false ∧ s.tu.active = true ∧
      t = State.fault { s with busy := true, engine := .starting } .engineInvariant) ∨
    (s.initDone = false ∧ t = s.refuse .notInit) := by
  unfold execFlash at h
  split at h
  · split at h
    · exact .inl ⟨by assumption, by assumption, (next_inj h).symm⟩
    · cases ha : s.tu.active
      · rw [State.flashAccept_idle s ha] at h
        exact .inr (.inl ⟨by assumption, by simp_all, rfl, (next_inj h).symm⟩)
      · rw [State.flashAccept_active s ha] at h
        exact .inr (.inr (.inl ⟨by assumption, by simp_all, rfl, (next_inj h).symm⟩))
  · exact .inr (.inr (.inr ⟨by simp_all, (next_inj h).symm⟩))

/-- ENG_IRQ: not taken, another cause, the fault of a completion with E Idle, the next record started, the fault of a
transfer unit that is active after completion, or the end of the stream (44_dma_streaming_engine.md R220 to R224). -/
theorem execEngIrq_cases (s t : State) (h : execEngIrq s = .next t) :
    t = s ∨
    (s.irqEnabled = true ∧ s.tu.tc = false ∧ t = s.transferClearInterrupt.returns .ok) ∨
    (s.irqEnabled = true ∧ s.tu.tc = true ∧ s.engine = .idle ∧
      t = s.transferClearInterrupt.fault .spuriousCompletion) ∨
    (s.irqEnabled = true ∧ s.tu.tc = true ∧ s.engine ≠ .idle ∧ s.tu.active = false ∧
      s.queue.cursor.val < s.queue.count.val ∧ ∃ c : Fin 9, c.val = s.queue.cursor.val + 1 ∧ t = { s with
        engine := .streaming
        queue := { s.queue with cursor := c }
        tu := { src := slotAddress s.params s.queue.cursor.val, n := 4, k := 0, active := true, tc := false,
                other := false }
        shifter := { s.shifter with enabled := true }
        cs := .asserted
        trace := s.trace ++ [.csDeassert, .csAssert]
        outcome := .ok }) ∨
    (s.irqEnabled = true ∧ s.tu.tc = true ∧ s.engine ≠ .idle ∧ s.tu.active = true ∧
      s.queue.cursor.val < s.queue.count.val ∧ ∃ c : Fin 9, c.val = s.queue.cursor.val + 1 ∧ t = State.fault { s with
        engine := .streaming
        queue := { s.queue with cursor := c }
        tu := { s.tu with tc := false, other := false }
        shifter := { s.shifter with enabled := true }
        cs := .asserted
        trace := s.trace ++ [.csDeassert, .csAssert] } .tuArmActive) ∨
    (s.irqEnabled = true ∧ s.tu.tc = true ∧ s.engine ≠ .idle ∧ s.queue.count.val ≤ s.queue.cursor.val ∧ t = { s with
      busy := false
      engine := .idle
      tu := { s.tu with tc := false, other := false }
      shifter := { s.shifter with enabled := true }
      cs := .asserted
      trace := s.trace ++ [.csDeassert, .csAssert] ++ extraLatch s.params
      outcome := .ok }) := by
  unfold execEngIrq at h
  split at h
  · rename_i he
    rcases s.takeInterrupt_cases with ⟨a, b⟩ | ⟨a, b, c⟩ | ⟨a, b, c⟩
    · rw [b] at h
      exact .inr (.inl ⟨he, a, (next_inj h).symm⟩)
    · rw [c] at h
      exact .inr (.inr (.inl ⟨he, a, b, (next_inj h).symm⟩))
    · rw [c] at h
      by_cases hc : s.queue.cursor.val < s.queue.count.val
      · cases ha : s.tu.active
        · rw [State.continueStream_more _ (by exact ha) (by exact hc)] at h
          exact .inr (.inr (.inr (.inl ⟨he, a, b, rfl, hc, _, rfl, (next_inj h).symm⟩)))
        · rw [State.continueStream_active _ (by exact ha) (by exact hc)] at h
          exact .inr (.inr (.inr (.inr (.inl ⟨he, a, b, rfl, hc, _, rfl, (next_inj h).symm⟩))))
      · rw [State.continueStream_last _ (by simpa using hc)] at h
        refine .inr (.inr (.inr (.inr (.inr ⟨he, a, b, by omega, ?_⟩))))
        rw [← next_inj h]
        simp only [State.endStream_eq, State.latch_eq, extraLatch]
        cases hx : s.params.extraFinalLatch <;>
          simp [State.returnFromInterrupt, State.transferClearInterrupt, State.returns, hx]
  · exact .inl (next_inj h).symm

/-! ### The end of a run -/

/-- The environment is at rest exactly when R18's four conditions on it hold (00_scope.md R18, 30_encoding.md R92). -/
theorem State.envAtRest_iff (s : State) : s.envAtRest = true ↔
    s.busy = false ∧ s.tu.active = false ∧ s.shifter.pending = [] ∧ s.tu.tc = false ∧ s.tu.other = false := by
  simp [State.envAtRest, State.transferIsIdle, State.serialIsBusy, State.causePending, and_assoc]

/-- A run is over exactly when R18's conditions hold and no fault is marked (00_scope.md R18, 60_exceptions.md R268). -/
theorem State.runOver_iff (s : State) : s.runOver = true ↔
    s.host.lines.length ≤ s.host.pc ∧ s.envAtRest = true ∧ s.faults.nonEmpty = false := by
  simp [State.runOver, and_assoc]

end Sys2Proof.Machine
end

