-- ==== Sys2Proof/Laws/PerInstr.lean ====
section
/-! SUPPORT. Statements made for every operation of the table, one lemma a constructor (LAWS.json).
-/

namespace Sys2Proof.Laws.TableMatch

/-- The word the encoder gives an operation is in its row of spec/opcode_table.json: its bits under the row's "mask" are
the row's "match" (30_encoding.md R72, R77), and the rows that have no mask name their operands in full (R82; R150). -/
def Statement : Instr → Prop
  | .init => ∃ w, encode .init = .cmd w ∧ w &&& 0xFFFFFFFF#32 = 0x00000001#32
  | .clear => ∃ w, encode .clear = .cmd w ∧ w &&& 0xFFFFFFFF#32 = 0x00000002#32
  | .draw n => ∃ w, encode (.draw n) = .cmd w ∧ w &&& 0xFFFFFF0F#32 = 0x00000003#32 ∧ w.extractLsb' 4 4 = n
  | .flash => ∃ w, encode .flash = .cmd w ∧ w &&& 0xFFFFFFFF#32 = 0x00000004#32
  | .fbRead r => ∃ lanes, encode (.fbRead r) = .internal 0x8#4 lanes ∧ lanes.row = r
  | .fbWrite r v => ∃ lanes, encode (.fbWrite r v) = .internal 0x9#4 lanes ∧ lanes.row = r ∧ lanes.value = v
  | .qReset => ∃ lanes, encode .qReset = .internal 0xA#4 lanes
  | .qStage rec => ∃ lanes, encode (.qStage rec) = .internal 0xB#4 lanes ∧ lanes.record = rec
  | .qNext => ∃ lanes, encode .qNext = .internal 0xC#4 lanes
  | .engStart => ∃ lanes, encode .engStart = .internal 0xD#4 lanes
  | .engIrq => ∃ lanes, encode .engIrq = .internal 0xE#4 lanes
  | .finalize => ∃ lanes, encode .finalize = .internal 0xF#4 lanes
  | .seqRow r v => encode (.seqRow r v) = .function r v
  | .busWord addr data => ∃ h, encode (.busWord addr data) = .wire h ∧ h.extractLsb' 8 8 = addr ∧ h.extractLsb' 0 8 = data

theorem init : Statement .init := ⟨_, rfl, by decide⟩

theorem clear : Statement .clear := ⟨_, rfl, by decide⟩

theorem draw (n : BitVec 4) : Statement (.draw n) := by
  refine ⟨_, rfl, ?_⟩
  revert n
  decide

theorem flash : Statement .flash := ⟨_, rfl, by decide⟩

theorem fbRead (r : Byte) : Statement (.fbRead r) := ⟨_, rfl, rfl⟩

theorem fbWrite (r : Byte) (v : Word) : Statement (.fbWrite r v) := ⟨_, rfl, rfl, rfl⟩

theorem qReset : Statement .qReset := ⟨_, rfl⟩

theorem qStage (rec : Record) : Statement (.qStage rec) := ⟨_, rfl, rfl⟩

theorem qNext : Statement .qNext := ⟨_, rfl⟩

theorem engStart : Statement .engStart := ⟨_, rfl⟩

theorem engIrq : Statement .engIrq := ⟨_, rfl⟩

theorem finalize : Statement .finalize := ⟨_, rfl⟩

theorem seqRow (r : BitVec 3) (v : Word) : Statement (.seqRow r v) := rfl

theorem busWord (addr data : Byte) : Statement (.busWord addr data) := by
  have ha := addr.isLt
  have hd := data.isLt
  have e : (addr ++ data).toNat = addr.toNat * 256 + data.toNat := by
    rw [BitVec.toNat_append, ← Nat.shiftLeft_add_eq_or_of_lt hd, Nat.shiftLeft_eq]
  refine ⟨_, rfl, ?_, ?_⟩ <;> apply BitVec.eq_of_toNat_eq <;> simp [e, Nat.shiftRight_eq_div_pow] <;> omega

end Sys2Proof.Laws.TableMatch
end

