-- ==== Sys2Proof/Tests/Slice0.lean ====
section
/-! SUPPORT. Tests. An expected value comes from 95_test_vectors.md (the vector is named) or from the rule named, by hand.
The witnesses at the end show states and operands that meet the hypotheses of the statements.
-/

open Sys2Proof Sys2Proof.Machine

namespace Sys2Proof.Tests

/-! ### States the tests start from -/

/-- The parameters the vectors of 95_test_vectors.md use: INTENSITY = 0x05, the other defaults; QBASE is an example. -/
def params : Params := { Config.defaultParams with intensity := 0x05#8, qbase := 0x100 }

def blank : Record := #v[0#16, 0#16, 0#16, 0#16]

/-- The reset state with the free values given. -/
def fresh : State := { State.reset with
  params := params
  queue := { slots := #v[blank, blank, blank, blank, blank, blank, blank, blank], count := 0, cursor := 0 }
  tu := { src := 0, n := 0, k := 0, active := false, tc := false, other := false } }

/-- After INIT (70_reset_and_hazards.md R292), with the trace left out. -/
def ready : State := { fresh with
  ie := true, shifter := { enabled := true, pending := [] }, cs := .asserted, initDone := true }

/-- DRAW's operand registers written. -/
def operands (x y w b0 b1 : Word) : State := { ready with regX := x, regY := y, regW := w, regBm0 := b0, regBm1 := b1 }

/-- The records of V1.2: row 0 holds 0xFF000000, rows 1 to 7 are 0. -/
def frame : Slots :=
  #v[#v[0x01FF#16, 0x0100#16, 0x0100#16, 0x0100#16], #v[0x0200#16, 0x0200#16, 0x0200#16, 0x0200#16],
     #v[0x0300#16, 0x0300#16, 0x0300#16, 0x0300#16], #v[0x0400#16, 0x0400#16, 0x0400#16, 0x0400#16],
     #v[0x0500#16, 0x0500#16, 0x0500#16, 0x0500#16], #v[0x0600#16, 0x0600#16, 0x0600#16, 0x0600#16],
     #v[0x0700#16, 0x0700#16, 0x0700#16, 0x0700#16], #v[0x0800#16, 0x0800#16, 0x0800#16, 0x0800#16]]

/-- Straight after V2.6 #1: the start of V2.7 #1 to #8. -/
def streaming : State := { ready with
  busy := true
  engine := .starting
  queue := { slots := frame, count := 8, cursor := 1 }
  tu := { src := 0x100, n := 4, k := 0, active := true, tc := false, other := false } }

/-- The record in flight is done and shifted, and completion is pending. -/
def completed : State := { streaming with
  tu := { src := 0x100, n := 4, k := 4, active := false, tc := true, other := false } }

/-- V2.7 #14: the last record of a stream is done. -/
def lastCompleted : State := { completed with
  engine := .streaming
  queue := { slots := frame, count := 8, cursor := 8 }
  tu := { src := 0x138, n := 4, k := 4, active := false, tc := true, other := false } }

/-- V2.7 #12: the transfer has failed. -/
def stalled : State := { streaming with
  tu := { src := 0x100, n := 4, k := 1, active := false, tc := false, other := true } }

/-- The next state; a step that stops gives a state no test expects. -/
def next (o : Host.Outcome State Fault Refusal) : State :=
  match o with
  | .next t => t
  | .fault _ => { fresh with turn := 999 }
  | .refused _ => { fresh with turn := 999 }

/-- Why a step was refused, if it was. -/
def refusal (o : Host.Outcome State Fault Refusal) : Option Refusal :=
  match o with
  | .next _ => none
  | .fault _ => none
  | .refused why => some why

/-! ### WellFormed: each check refuses an ill-formed term -/

/-- R72: BMLEN 9. -/
theorem test_wf_draw_refuses_9 : (Instr.draw 9#4).wf = false := by decide

/-- R102: row 8. -/
theorem test_wf_fbRead_refuses_row_8 : (Instr.fbRead 8#8).wf = false := by decide

/-- R101: row 8. -/
theorem test_wf_fbWrite_refuses_row_8 : (Instr.fbWrite 8#8 0#32).wf = false := by decide

/-- R80: a narrow access, an unaligned one, one at 0x40. -/
theorem test_wf_access_refuses : (HostAccess.read 0 .bits8).wf = false ∧ (HostAccess.read 2 .bits32).wf = false ∧
    (HostAccess.write 0x40 .bits32 0#32).wf = false := by decide

/-- R9: SHIFTER_DEPTH is at least 1. -/
theorem test_wf_params_refuses_depth_0 : ({ params with shifterDepth := 0 } : Params).wf = false := by decide

/-! ### Decoding: words written out bit by bit (R72, R77, R82) -/

/-- R72, R77: {reserved 0, BMLEN, OP} for the four host commands. -/
theorem test_decode_cmd :
    decode (.cmd 0b000000000000000000000000_0000_0001#32) = .ok .init ∧
    decode (.cmd 0b000000000000000000000000_0000_0010#32) = .ok .clear ∧
    decode (.cmd 0b000000000000000000000000_0000_0011#32) = .ok (.draw 0#4) ∧
    decode (.cmd 0b000000000000000000000000_0111_0011#32) = .ok (.draw 7#4) ∧
    decode (.cmd 0b000000000000000000000000_0000_0100#32) = .ok .flash := by decide

/-- R77: the eight internal codes; the lanes carry row 5, value 0xFF. -/
theorem test_decode_internal :
    decode (.internal 0b1000#4 ⟨5#8, 0xFF#32, blank⟩) = .ok (.fbRead 5#8) ∧
    decode (.internal 0b1001#4 ⟨5#8, 0xFF#32, blank⟩) = .ok (.fbWrite 5#8 0xFF#32) ∧
    decode (.internal 0b1010#4 ⟨5#8, 0xFF#32, blank⟩) = .ok .qReset ∧
    decode (.internal 0b1011#4 ⟨5#8, 0xFF#32, blank⟩) = .ok (.qStage blank) ∧
    decode (.internal 0b1100#4 ⟨5#8, 0xFF#32, blank⟩) = .ok .qNext ∧
    decode (.internal 0b1101#4 ⟨5#8, 0xFF#32, blank⟩) = .ok .engStart ∧
    decode (.internal 0b1110#4 ⟨5#8, 0xFF#32, blank⟩) = .ok .engIrq ∧
    decode (.internal 0b1111#4 ⟨5#8, 0xFF#32, blank⟩) = .ok .finalize := by decide

/-- R82: {addr 15:8, data 7:0}; R150: SEQ_ROW has no code, only operands. -/
theorem test_decode_wire_and_function :
    decode (.wire 0b00001100_00000001#16) = .ok (.busWord 0b00001100#8 0b00000001#8) ∧
    decode (.function 0b110#3 0xAABBCCDD#32) = .ok (.seqRow 6#3 0xAABBCCDD#32) := by decide

/-- V2.8 #4 to #9: the refused CMD words. -/
theorem test_decode_refuses :
    decode (.cmd 0x00000093#32) = .error .bmlenRange ∧ decode (.cmd 0x00000012#32) = .error .reservedBits ∧
    decode (.cmd 0x00000000#32) = .error .reservedOp ∧ decode (.cmd 0x00000100#32) = .error .reservedBits ∧
    decode (.cmd 0x00000008#32) = .error .reservedOp ∧ decode (.cmd 0x00000005#32) = .error .reservedOp := by decide

/-- R77: the internal decoder has no operation under the host's codes or the reserved ones. -/
theorem test_decode_internal_refuses :
    decode (.internal 0x0#4 Lanes.zero) = .error .reservedOp ∧
    decode (.internal 0x4#4 Lanes.zero) = .error .reservedOp ∧
    decode (.internal 0x7#4 Lanes.zero) = .error .reservedOp := by decide

/-- The table's rows as the host numbers them (log 10, log 11): 32-bit, 4-bit in a byte, 16-bit, no bits. -/
theorem test_decodeTableWord :
    decodeTableWord 32 0x83 = some (.draw 8#4) ∧ decodeTableWord 8 0xE = some .engIrq ∧
    decodeTableWord 16 0x0C01 = some (.busWord 0x0C#8 0x01#8) ∧ decodeTableWord 0 0 = some (.seqRow 0#3 0#32) ∧
    decodeTableWord 8 0x1E = none ∧ decodeTableWord 32 0x93 = none := by decide

/-! ### The host commands -/

/-- V2.8 #1: 31 events, the first record and its latch, the last word; STATUS. -/
theorem test_init : (next (exec .init fresh)).trace.length = 31 ∧
    (next (exec .init fresh)).trace.take 7 = [.csAssert, .word 0x0F00#16, .word 0x0F00#16, .word 0x0F00#16,
      .word 0x0F00#16, .csDeassert, .csAssert] ∧
    (next (exec .init fresh)).trace[13]? = some (.word 0x0A05#16) ∧
    (next (exec .init fresh)).trace[28]? = some (.word 0x0C01#16) ∧
    (next (exec .init fresh)).status = 0x00000020#32 := by decide

/-- V2.8 #3: REINIT; STATUS. -/
theorem test_init_twice : (next (exec .init ready)).status = 0x00000038#32 ∧ (next (exec .init ready)).trace = [] := by
  decide

/-- V2.2 #1. -/
theorem test_clear : (next (exec .clear { ready with
    fb := #v[0xFFFFFFFF#32, 1#32, 0#32, 0#32, 0#32, 0#32, 0#32, 0x80000000#32] })).fb =
    #v[0#32, 0#32, 0#32, 0#32, 0#32, 0#32, 0#32, 0#32] := by decide

/-- V2.8 #2: before INIT; STATUS. -/
theorem test_clear_before_init : (next (exec .clear fresh)).status = 0x00000018#32 := by decide

/-- V2.3 #3: right clip, x = 28. -/
theorem test_draw_right_clip : (next (exec (.draw 1#4) (operands 28#32 0#32 8#32 0xFF000000#32 0#32))).fb =
    #v[0x0000000F#32, 0#32, 0#32, 0#32, 0#32, 0#32, 0#32, 0#32] := by decide

/-- P3, frame 1: x = −3, y = 1, seven rows. -/
theorem test_draw_left_clip :
    (next (exec (.draw 7#4) (operands 0xFFFFFFFD#32 1#32 8#32 0x3C428181#32 0x81423C00#32))).fb =
    #v[0#32, 0xE0000000#32, 0x10000000#32, 0x08000000#32, 0x08000000#32, 0x08000000#32, 0x10000000#32,
       0xE0000000#32] := by decide

/-- V2.6 #1: STATUS and the queue. -/
theorem test_flash : (next (exec .flash { ready with fb := ready.fb.set 0 0xFF000000#32 })).status = 0x00000623#32 ∧
    (next (exec .flash { ready with fb := ready.fb.set 0 0xFF000000#32 })).queue.slots = frame := by decide

/-- V2.6 #2: the STATUS of P2. -/
theorem test_flash_busy : (next (exec .flash streaming)).status = 0x0000062B#32 ∧
    (next (exec .flash streaming)).queue = streaming.queue := by decide

/-! ### The internal operations -/

/-- V2.1 #1, and R102 beyond row 7. -/
theorem test_fbRead :
    (next (exec (.fbRead 3#8) { ready with fb := ready.fb.set 3 0x12345678#32 })).outcome = .okValue 0x12345678#32 ∧
    (next (exec (.fbRead 8#8) ready)).faults.fbIndex = true := by decide

/-- V2.1 #2. -/
theorem test_fbWrite : (next (exec (.fbWrite 6#8 0xDEADBEEF#32) ready)).fb =
    #v[0#32, 0#32, 0#32, 0#32, 0#32, 0#32, 0xDEADBEEF#32, 0#32] := by decide

/-- V2.5 #1 and #2. -/
theorem test_qReset : (next (exec .qReset lastCompleted)).queue = ⟨frame, 0, 0⟩ ∧
    (next (exec .qReset streaming)).outcome = .busyError ∧ (next (exec .qReset streaming)).queue = streaming.queue := by
  decide

/-- V2.5 #3. -/
theorem test_qStage : (next (exec (.qStage #v[0x0401#16, 0x0402#16, 0x0403#16, 0x0404#16]) { ready with
    queue := ⟨frame, 3, 0⟩ })).queue = ⟨frame.set 3 #v[0x0401#16, 0x0402#16, 0x0403#16, 0x0404#16], 4, 0⟩ := by decide

/-- V2.5 #4 and #6. -/
theorem test_qStage_errors : (next (exec (.qStage blank) { ready with queue := ⟨frame, 8, 0⟩ })).outcome = .overflowError ∧
    (next (exec (.qStage blank) streaming)).outcome = .busyError := by decide

/-- V2.5 #7. -/
theorem test_qNext :
    (next (exec .qNext { ready with queue := ⟨frame, 2, 1⟩ })).outcome =
      .okSlot 1 #v[0x0200#16, 0x0200#16, 0x0200#16, 0x0200#16] ∧
    (next (exec .qNext { ready with queue := ⟨frame, 2, 1⟩ })).queue.cursor = 2 ∧
    (next (exec .qNext { ready with queue := ⟨frame, 2, 2⟩ })).outcome = .okNone := by decide

/-- R213: arms slot 0, asserts chip-select, cursor 1. -/
theorem test_engStart : (next (exec .engStart { ready with queue := ⟨frame, 5, 0⟩ })).tu =
      ⟨0x100, 4, 0, true, false, false⟩ ∧
    (next (exec .engStart { ready with queue := ⟨frame, 5, 0⟩ })).trace = [.csAssert] ∧
    (next (exec .engStart { ready with queue := ⟨frame, 5, 0⟩ })).queue.cursor = 1 := by decide

/-- V2.7 #8: the next record. -/
theorem test_engIrq_next : (next (exec .engIrq completed)).tu = ⟨0x108, 4, 0, true, false, false⟩ ∧
    (next (exec .engIrq completed)).engine = .streaming ∧
    (next (exec .engIrq completed)).trace = [.csDeassert, .csAssert] ∧
    (next (exec .engIrq completed)).queue.cursor = 2 := by decide

/-- V2.7 #14 and #15: the end of the stream. -/
theorem test_engIrq_last : (next (exec .engIrq lastCompleted)).busy = false ∧
    (next (exec .engIrq lastCompleted)).engine = .idle ∧
    (next (exec .engIrq lastCompleted)).trace = [.csDeassert, .csAssert] ∧
    (next (exec .engIrq { lastCompleted with params := { params with extraFinalLatch := true } })).trace =
      [.csDeassert, .csAssert, .csDeassert, .csAssert] := by decide

/-- V2.7 #17. -/
theorem test_finalize : (next (exec .finalize ready)).trace = [.csDeassert, .csAssert] ∧
    (next (exec .finalize ready)).shifter.enabled = true ∧ (next (exec .finalize ready)).cs = .asserted := by decide

/-- V2.7 #18: it holds while a word is pending. -/
theorem test_finalize_holds : (next (exec .finalize { ready with shifter := ⟨true, [0x0801#16]⟩ })).trace = [] := by
  decide

/-- V2.4 #1 and #2. -/
theorem test_seqRow :
    (next (exec (.seqRow 0#3 0xAABBCCDD#32) ready)).outcome = .okRecord #v[0x01AA#16, 0x01BB#16, 0x01CC#16, 0x01DD#16] ∧
    (next (exec (.seqRow 7#3 0x12345678#32) ready)).outcome = .okRecord #v[0x0812#16, 0x0834#16, 0x0856#16, 0x0878#16] := by
  decide

/-- R82, R84. -/
theorem test_busWord : (next (exec (.busWord 0x0A#8 0x05#8) ready)).trace = [.word 0x0A05#16] := by decide

/-! ### The register bank -/

/-- V2.1 #3, V2.8 #12. -/
theorem test_reads :
    (next (State.hostAccess { ready with fb := ready.fb.set 7 0x80000001#32 } (.read 0x3C .bits32))).host.lastRead =
      0x80000001#32 ∧
    (next (ready.hostAccess (.read 0x00 .bits32))).host.lastRead = 0#32 := by decide

/-- V2.1 #5, V2.8 #11. -/
theorem test_ignored_writes : (next (ready.hostAccess (.write 0x20 .bits32 0xFFFFFFFF#32))).fb = ready.fb ∧
    (next (ready.hostAccess (.write 0x18 .bits32 0xFFFFFFFF#32))).status = ready.status := by decide

/-- V2.8 #13. -/
theorem test_refused_accesses : refusal (ready.hostAccess (.read 0x18 .bits8)) = some .accessWidth ∧
    refusal (ready.hostAccess (.read 0x19 .bits32)) = some .accessUnaligned ∧
    refusal (ready.hostAccess (.write 0x40 .bits32 0#32)) = some .accessRange := by decide

/-! ### The environment -/

/-- V2.7 #1. -/
theorem test_tu_move : streaming.tuMove.shifter.pending = [0x01FF#16] ∧ streaming.tuMove.tu.k = 1 := by decide

/-- V2.7 #3: a full shifter. -/
theorem test_tu_move_full : State.tuMove { streaming with shifter := ⟨true, [0x01FF#16, 0x0100#16]⟩ } =
    { streaming with shifter := ⟨true, [0x01FF#16, 0x0100#16]⟩ } := by decide

/-- V2.7 #4. -/
theorem test_sh_shift : (State.shShift { ready with shifter := ⟨true, [0x01FF#16, 0x0100#16]⟩ }).trace =
      [.word 0x01FF#16] ∧
    (State.shShift { ready with shifter := ⟨true, [0x01FF#16, 0x0100#16]⟩ }).shifter.pending = [0x0100#16] := by decide

/-- V2.7 #9 and #11. -/
theorem test_tu_other_and_fail : streaming.tuOther.tu = ⟨0x100, 4, 0, true, false, true⟩ ∧
    streaming.tuFail.tu = ⟨0x100, 4, 0, false, false, true⟩ := by decide

/-! ### The end of a run -/

/-- R18: over with nothing in flight; not over with a cause pending, the interrupt enabled or not, or with B = 1. -/
theorem test_runOver : ready.runOver = true ∧ fresh.runOver = true ∧ streaming.runOver = false ∧
    State.runOver { ready with tu := ⟨0, 4, 4, false, true, false⟩ } = false ∧
    State.runOver { fresh with tu := ⟨0, 4, 4, false, true, false⟩ } = false ∧
    State.runOver { fresh with tu := ⟨0, 4, 1, false, false, true⟩ } = false := by decide

/-! ### The step -/

/-- A word of the table is the first operation after reset (log 16): INIT, an internal operation, a bus word. -/
theorem test_first_step : (next (step (State.reset.withFetchWord 32 0x1))).initDone = true ∧
    (next (step (State.reset.withFetchWord 8 0xC))).outcome = .okNone ∧
    (next (step (State.reset.withFetchWord 16 0x0A05))).trace = [.word 0x0A05#16] := by decide

/-! ### Witnesses: the hypotheses of the statements, met together -/

/-- A host whose next line is a CMD write, with its turn next. -/
def commanding (s : State) (w : Word) : State := { s with
  host := { lines := [.access (.write 0x00 .bits32 w)], pc := 0, lastRead := 0#32 }, sched := [.host] }

/-- A host at line 1 of a script, with its turns next. -/
def scripted (s : State) (lines : List HostLine) (turns : Nat) : State := { s with
  host := { lines := scriptWr .x 0#32 :: lines, pc := 1, lastRead := 0#32 }, sched := List.replicate turns .host }

theorem witness_DecodeOfEncodeIsTheInstruction : (Instr.draw 8#4).wf = true ∧ (Instr.fbRead 7#8).wf = true ∧
    (Instr.fbWrite 7#8 0xFFFFFFFF#32).wf = true ∧ (Instr.busWord 0xFF#8 0xFF#8).wf = true := by decide

theorem witness_EncodeOfDecodedWordIsTheWord : decode (.cmd 0x83#32) = .ok (.draw 8#4) ∧
    decode (.wire 0xFFFF#16) = .ok (.busWord 0xFF#8 0xFF#8) ∧ decode (.function 7#3 0#32) = .ok (.seqRow 7#3 0#32) ∧
    decode (.internal 0xF#4 Lanes.zero) = .ok .finalize := by decide

/-- Each outcome of R78, at the ends of its range. -/
theorem witness_CmdWriteTakesTheFirstApplicableOutcome :
    (next (ready.hostAccess (.write 0 .bits32 0x100#32))).outcome = .refused .reservedBits ∧
    (next (ready.hostAccess (.write 0 .bits32 0x80000001#32))).outcome = .refused .reservedBits ∧
    (next (ready.hostAccess (.write 0 .bits32 0x0#32))).outcome = .refused .reservedOp ∧
    (next (ready.hostAccess (.write 0 .bits32 0x5#32))).outcome = .refused .reservedOp ∧
    (next (ready.hostAccess (.write 0 .bits32 0xFF#32))).outcome = .refused .reservedOp ∧
    (next (ready.hostAccess (.write 0 .bits32 0x14#32))).outcome = .refused .reservedBits ∧
    (next (ready.hostAccess (.write 0 .bits32 0xF1#32))).outcome = .refused .reservedBits ∧
    (next (ready.hostAccess (.write 0 .bits32 0x93#32))).outcome = .refused .bmlenRange ∧
    (next (ready.hostAccess (.write 0 .bits32 0xF3#32))).outcome = .refused .bmlenRange ∧
    (next (ready.hostAccess (.write 0 .bits32 0x1#32))).outcome = .refused .reinit ∧
    (next (fresh.hostAccess (.write 0 .bits32 0x4#32))).outcome = .refused .notInit ∧
    (next (fresh.hostAccess (.write 0 .bits32 0x1#32))).outcome = .ok ∧
    (next (ready.hostAccess (.write 0 .bits32 0x83#32))).outcome = .ok := by decide

/-- The first and the last register, in the list the statement gives. -/
theorem witness_RegisterReadsReturnTheirValue :
    let rows := [(0x00, 0#32), (0x04, ready.regX), (0x08, ready.regY), (0x0C, ready.regW), (0x10, ready.regBm0),
      (0x14, ready.regBm1), (0x18, ready.status), (0x1C, 0#32), (0x20, ready.fb[0]), (0x24, ready.fb[1]),
      (0x28, ready.fb[2]), (0x2C, ready.fb[3]), (0x30, ready.fb[4]), (0x34, ready.fb[5]), (0x38, ready.fb[6]),
      (0x3C, ready.fb[7])]
    (0x00, 0#32) ∈ rows ∧ (0x3C, ready.fb[7]) ∈ rows := by decide

theorem witness_RegisterWritesStoreOrAreIgnored : (0x18 : Nat) ∈ [0x18, 0x1C, 0x20, 0x24, 0x28, 0x2C, 0x30, 0x34, 0x38, 0x3C] ∧
    (0x3C : Nat) ∈ [0x18, 0x1C, 0x20, 0x24, 0x28, 0x2C, 0x30, 0x34, 0x38, 0x3C] := by decide

theorem witness_BadAccessesAreRefused : AccessSize.bits8 ≠ .bits32 ∧ AccessSize.bits16 ≠ .bits32 ∧ 0x3F % 4 ≠ 0 ∧ 0x41 % 4 ≠ 0 ∧
    (0x40 % 4 = 0 ∧ 0x40 ≤ 0x40) := by decide

theorem witness_GoodAccessesAnswerANextState : (HostAccess.read 0x00 .bits32).wf = true ∧
    (HostAccess.write 0x3C .bits32 0xFFFFFFFF#32).wf = true := by decide

theorem witness_InitSendsTheBringUpSequence : fresh.initDone = false ∧ ready.initDone = true := by decide

theorem witness_ClearZeroesEveryRow : ready.initDone = true ∧ fresh.initDone = false := by decide

theorem witness_DrawOrsThePlacedBitmap : ready.initDone = true ∧ (8#4 ≤ 8#4) ∧ (0#4 ≤ 8#4) := by decide

/-- Rows 0 and 7 of DRAW's row clause at y = 7 and n = 8, and a column at each side of each edge. -/
theorem witness_DrawLightsTheBitmapsColumns : (7 ≤ 7 ∧ 7 - 7 < (8#4).toNat) ∧ ¬ (7 ≤ 0) ∧ (0 : Int) ≤ 31 - 31 ∧ ¬ ((0 : Int) ≤ 31 - 32) ∧
    ((7 : Int) < 8 ∧ ¬ ((8 : Int) < 8)) := by decide

theorem witness_DrawAndClearProperties : (operands 0#32 8#32 9#32 0#32 0#32).initDone = true ∧
    8 ≤ (operands 0#32 8#32 9#32 0#32 0#32).regY.toNat ∧ 8 < (operands 0#32 8#32 9#32 0#32 0#32).regW.toNat := by decide

theorem witness_FbReadReturnsTheRow_and_FbWriteWritesOneRow : (7#8).toNat < 8 ∧ 8 ≤ (8#8).toNat := by decide

theorem witness_QResetEmptiesTheQueue : ready.tu.active = false ∧ streaming.tu.active = true := by decide

theorem witness_QStageAppendsOneRecord : ready.tu.active = false ∧ ({ ready with queue := ⟨frame, 7, 0⟩ } : State).queue.count.val < 8 := by
  decide

theorem witness_QStageErrorsChangeNothing : streaming.tu.active = true ∧
    (lastCompleted.tu.active = false ∧ lastCompleted.queue.count = 8) := by decide

theorem witness_QNextYieldsInOrder : ({ ready with queue := ⟨frame, 8, 7⟩ } : State).queue.cursor.val <
      ({ ready with queue := ⟨frame, 8, 7⟩ } : State).queue.count.val ∧
    lastCompleted.queue.count.val ≤ lastCompleted.queue.cursor.val := by decide

theorem witness_FlashSnapshotsTheFrameAndStarts : ready.initDone = true ∧ ready.busy = false ∧ ready.tu.active = false := by decide

theorem witness_FlashWhileBusyIsRejected : streaming.initDone = true ∧ streaming.busy = true := by decide

theorem witness_EngStartArmsTheNextRecord : ({ ready with queue := ⟨frame, 1, 0⟩ } : State).tu.active = false ∧
    ({ ready with queue := ⟨frame, 1, 0⟩ } : State).queue.cursor.val <
      ({ ready with queue := ⟨frame, 1, 0⟩ } : State).queue.count.val ∧
    fresh.queue.count.val ≤ fresh.queue.cursor.val ∧
    (streaming.tu.active = true ∧ streaming.queue.cursor.val < streaming.queue.count.val) := by decide

theorem witness_CompletionPassStartsTheNextRecord : completed.ie = true ∧ completed.tu.tc = true ∧ completed.shifter.pending = [] ∧
    completed.engine ≠ .idle ∧ completed.tu.active = false ∧
    completed.queue.cursor.val < completed.queue.count.val := by decide

theorem witness_LastCompletionPassEndsTheStream : lastCompleted.ie = true ∧ lastCompleted.tu.tc = true ∧ lastCompleted.shifter.pending = [] ∧
    lastCompleted.engine ≠ .idle ∧ lastCompleted.queue.count.val ≤ lastCompleted.queue.cursor.val := by decide

theorem witness_OtherCausesAreOnlyAcknowledged : stalled.ie = true ∧ stalled.tu.tc = false ∧ stalled.tu.other = true := by decide

theorem witness_SpuriousCompletionIsMarked : ({ completed with engine := .idle } : State).ie = true ∧
    ({ completed with engine := .idle } : State).tu.tc = true ∧
    ({ completed with engine := .idle } : State).shifter.pending = [] ∧
    ({ completed with engine := .idle } : State).engine = .idle := by decide

theorem witness_FaultsOfAnActiveUnitAreMarked :
    let s := { streaming with busy := false }
    let u := { completed with tu := ⟨0x100, 4, 4, true, true, false⟩ }
    (s.tu.active = true ∧ s.initDone = true ∧ s.busy = false) ∧
    (u.tu.active = true ∧ u.ie = true ∧ u.tu.tc = true ∧ u.shifter.pending = [] ∧ u.engine ≠ .idle ∧
      u.queue.cursor.val < u.queue.count.val) := by decide

theorem witness_InterruptWaitsUntilEnabled : fresh.ie = false ∧ (streaming.tu.tc = false ∧ streaming.tu.other = false) ∧
    (({ completed with shifter := ⟨true, [0#16]⟩ } : State).tu.tc = true ∧
      ({ completed with shifter := ⟨true, [0#16]⟩ } : State).shifter.pending ≠ []) := by decide

theorem witness_FinalizeLatchesOnceTheShifterIsEmpty : ready.shifter.pending = [] ∧
    ({ ready with shifter := ⟨true, [0#16]⟩ } : State).shifter.pending ≠ [] := by decide

/-- Slot 7, at its first and its last halfword; then a TU that is idle, one that has moved all 4, and a full shifter. -/
theorem witness_MoveHandsOverTheNextHalfword :
    let first := { streaming with tu := ⟨0x138, 4, 0, true, false, false⟩ }
    let last := { streaming with tu := ⟨0x138, 4, 3, true, false, false⟩ }
    let moved := { streaming with tu := ⟨0x138, 4, 4, true, false, false⟩ }
    let full := { streaming with shifter := ⟨true, [0x01FF#16, 0x0100#16]⟩ }
    first.tu.src = first.params.qbase + 8 * 7 ∧ first.tu.k < 4 ∧ first.tu.n = 4 ∧ first.tu.active = true ∧
    first.shifter.pending.length < first.params.shifterDepth ∧
    last.tu.src = last.params.qbase + 8 * 7 ∧ last.tu.k < 4 ∧ last.tu.n = 4 ∧ last.tu.active = true ∧
    last.shifter.pending.length < last.params.shifterDepth ∧
    ready.tu.active = false ∧ moved.tu.n ≤ moved.tu.k ∧ full.params.shifterDepth ≤ full.shifter.pending.length := by decide

/-- The last halfword of the queue and the addresses on either side of it, and a move from one of them. -/
theorem witness_QueueMemoryEndsAtSixtyFourBytes :
    let s := { streaming with tu := ⟨0x140, 4, 0, true, false, false⟩ }
    0x13E = s.params.qbase + 8 * 7 + 2 * 3 ∧ s.params.qbase + 64 ≤ 0x140 ∧ 0xFF < s.params.qbase ∧
    (0x13F - s.params.qbase) % 2 ≠ 0 ∧ 0x140 = s.tu.src + 2 * s.tu.k ∧ s.tuMoveEnabled = true := by decide

theorem witness_OtherCauseLeavesTheTransfer_and_FailStopsTheTransfer : streaming.params.tuOtherCauses = true ∧ streaming.params.tuMayFail = true ∧
    streaming.tu.active = true ∧ ready.tu.active = false ∧ ({ params with tuMayFail := false } : Params).tuMayFail = false ∧
    ({ params with tuOtherCauses := false } : Params).tuOtherCauses = false := by decide

theorem witness_ShiftEmitsTheOldestWord :
    ({ ready with shifter := ⟨true, [0x01FF#16]⟩ } : State).shifter.pending = 0x01FF#16 :: [] ∧
    ready.shifter.pending = [] := by decide

theorem witness_HostWaitsWhileAnInterruptIsPending : (commanding completed 4#32).sched = .host :: [] ∧ (commanding completed 4#32).ie = true ∧
    (commanding completed 4#32).tu.tc = true ∧ (commanding stalled 4#32).tu.other = true := by decide

theorem witness_HostStepRunsTheDecodedCommand : (commanding ready 0x83#32).sched = .host :: [] ∧
    ((commanding ready 0x83#32).tu.tc = false ∧ (commanding ready 0x83#32).tu.other = false) ∧
    (commanding ready 0x83#32).host.lines[(commanding ready 0x83#32).host.pc]? =
      some (.access (.write 0x00 .bits32 0x83#32)) ∧
    decode (.cmd 0x83#32) = .ok (.draw 8#4) ∧ (commanding fresh 0x1#32).ie = false := by decide

theorem witness_BenchStepRunsTheDecodedOperation :
    let s := { ready with bench := [.internal 0xC#4 Lanes.zero], sched := [.bench] }
    let u := { ready with bench := [.internal 0xE#4 Lanes.zero], sched := [.bench] }
    s.sched = .bench :: [] ∧ s.bench = .internal 0xC#4 Lanes.zero :: [] ∧
    decode (.internal 0xC#4 Lanes.zero) = .ok .qNext ∧ s.held .qNext = false ∧
    decode (.internal 0xE#4 Lanes.zero) = .ok .engIrq ∧ u.held .engIrq = true := by decide

theorem witness_InterruptStepRunsThePass : ({ completed with sched := [.irq] } : State).sched = .irq :: [] := by decide

/-- A CMD word with and without a pending interrupt; a bus word of 16 bits and an operation that holds. -/
theorem witness_FetchedWordRunsNext : decodeTableWord 32 0x83 = some (.draw 8#4) ∧ 16 < 32 ∧
    ready.irqPending = false ∧ completed.irqPending = true ∧
    decodeTableWord 16 0x0A05 = some (.busWord 0x0A#8 0x05#8) ∧ 16 ≤ 16 ∧ ready.held (.busWord 0x0A#8 0x05#8) = false ∧
    decodeTableWord 8 0xE = some .engIrq ∧ ready.held .engIrq = true := by decide

theorem reset_inv : State.reset.Inv :=
  ⟨rfl, rfl, by decide, by decide, by decide, rfl, rfl, rfl, fun _ => rfl, fun _ => ⟨rfl, rfl, rfl, rfl⟩,
    fun h => absurd rfl h⟩

theorem ready_inv : ready.Inv :=
  ⟨rfl, rfl, by decide, by decide, by decide, rfl, rfl, rfl, by decide, fun _ => ⟨rfl, rfl, rfl, rfl⟩,
    fun h => absurd rfl h⟩

theorem streaming_inv : streaming.Inv :=
  ⟨rfl, rfl, by decide, by decide, by decide, rfl, rfl, rfl, by decide, (fun h => nomatch h),
    fun _ => ⟨by decide, by decide, by decide, by decide, by decide, by decide⟩⟩

theorem completed_inv : completed.Inv :=
  ⟨rfl, rfl, by decide, by decide, by decide, rfl, rfl, rfl, by decide, (fun h => nomatch h),
    fun _ => ⟨by decide, by decide, by decide, by decide, by decide, by decide⟩⟩

theorem lastCompleted_inv : lastCompleted.Inv :=
  ⟨rfl, rfl, by decide, by decide, by decide, rfl, rfl, rfl, by decide, (fun h => nomatch h),
    fun _ => ⟨by decide, by decide, by decide, by decide, by decide, by decide⟩⟩

/-- The invariant reads nothing of the schedule and the host. -/
theorem inv_with_turns (s : State) (host : HostThread) (sched : List Agent) (h : s.Inv) :
    ({ s with host := host, sched := sched } : State).Inv :=
  ⟨h.1, h.2, h.3, h.4, h.5, h.6, h.7, h.8, h.9, fun e => ⟨(h.10 e).1, (h.10 e).2, (h.10 e).3, (h.10 e).4⟩,
    fun e => ⟨(h.11 e).1, (h.11 e).2, (h.11 e).3, (h.11 e).4, (h.11 e).5, (h.11 e).6⟩⟩

/-- For the statements about every step: a step of a stream from a state with the invariant. -/
theorem witness_EveryStepKeepsTheInvariant_and_TheFrameInFlightIsFixed : ({ streaming with host := streaming.host, sched := [.tuMove] } : State).Inv ∧
    ({ streaming with host := streaming.host, sched := [.tuMove] } : State).engine ≠ .idle ∧
    step { streaming with host := streaming.host, sched := [.tuMove] } =
      .next { streaming with
        shifter := ⟨true, [0x01FF#16]⟩, tu := ⟨0x100, 4, 1, true, false, false⟩ } :=
  ⟨inv_with_turns _ _ _ streaming_inv, by decide, rfl⟩

theorem witness_TraceAndFaultMarkOnlyGrow : FaultMark.has ⟨true, false, false, false, false⟩ .fbIndex = true ∧
    step { ready with faults := ⟨true, false, false, false, false⟩, shifter := ⟨true, [1#16]⟩, sched := [.shShift] } =
      .next { ready with faults := ⟨true, false, false, false, false⟩, trace := [.word 1#16] } := ⟨rfl, rfl⟩

theorem witness_LatchesStayPaired : latchesPaired [.csAssert, .csDeassert, .csAssert] = true ∧
    ∃ t, step { completed with trace := [.csAssert, .csDeassert, .csAssert], sched := [.irq] } = .next t :=
  ⟨by decide, _, rfl⟩

theorem witness_QueueIsFrozenWhileTheUnitIsActive : streaming.tu.active = true ∧ ∃ t, step (commanding streaming 4#32) = .next t :=
  ⟨rfl, _, rfl⟩

theorem witness_OnlyTheHostTouchesTheFramebuffer : Agent.irq ≠ .host ∧ Agent.irq ≠ .bench ∧ ∃ t, completed.agentStep .irq = .next t :=
  ⟨by decide, by decide, _, rfl⟩

theorem witness_EnableAndInitAreNeverCleared : ready.ie = true ∧ ready.initDone = true ∧ ∃ t, step (commanding ready 2#32) = .next t :=
  ⟨rfl, rfl, _, rfl⟩

/-- Each of the four moves of the engine, from a state with the invariant. -/
theorem witness_EngineMovesOnlyAsTheTableSays :
    (commanding ready 4#32).Inv ∧ (next (step (commanding ready 4#32))).engine = .starting ∧
    ({ completed with host := completed.host, sched := [.irq] } : State).Inv ∧
    (next (step { completed with host := completed.host, sched := [.irq] })).engine = .streaming ∧
    ({ lastCompleted with host := lastCompleted.host, sched := [.irq] } : State).Inv ∧
    (next (step { lastCompleted with host := lastCompleted.host, sched := [.irq] })).engine = .idle :=
  ⟨inv_with_turns _ _ _ ready_inv, by decide, inv_with_turns _ _ _ completed_inv, by decide,
    inv_with_turns _ _ _ lastCompleted_inv, by decide⟩

theorem witness_AStallIsForever : stalled.Stalled ∧ stalled.initDone = true ∧ ∃ t, step { stalled with sched := [.irq] } = .next t :=
  ⟨⟨rfl, rfl, by decide, rfl, rfl⟩, rfl, _, rfl⟩

theorem witness_FlashPromisesItsFrame : ready.Inv ∧ ready.initDone = true ∧ ready.busy = false := ⟨ready_inv, rfl, rfl⟩

/-- A frame of 8 records from its first one: 8 passes. -/
theorem witness_StreamDrainsEveryStagedRecord :
    let s := { streaming with host := streaming.host, sched := (List.replicate 8 recordTurns).flatten ++ [] }
    s.Inv ∧ s.params.wf = true ∧ s.engine ≠ .idle ∧ s.tu.active = true ∧ s.tu.k = 0 ∧ s.tu.other = false ∧
    s.shifter.pending = [] ∧ s.queue.count.val + 1 = s.queue.cursor.val + 8 ∧
    s.sched = (List.replicate 8 recordTurns).flatten ++ [] :=
  ⟨inv_with_turns _ _ _ streaming_inv, by decide, by decide, rfl, rfl, rfl, rfl, rfl, rfl⟩

/-- The end of a stream, and then turns that find nothing to do. -/
def endingRun : Nat → State
  | 0 => { lastCompleted with params := { params with tuMayFail := false }, host := fresh.host, sched := [.irq] }
  | n + 1 => { ready with
    params := { params with tuMayFail := false }
    queue := lastCompleted.queue
    tu := { lastCompleted.tu with tc := false }
    trace := [.csDeassert, .csAssert]
    turn := n }

theorem endingRun_fair : FairRun endingRun where
  steps n := by
    cases n with
    | zero => rfl
    | succ n =>
      show State.agentStep (endingRun (n + 2)) (Config.freeAgent n) = _
      cases Config.freeAgent n <;> rfl
  fair a ha n := by
    refine ⟨n + 1, by omega, .inl ?_⟩
    simp only [List.mem_cons, List.not_mem_nil, or_false] at ha
    rcases ha with rfl | rfl | rfl <;> rfl

theorem witness_FairStreamsEnd : FairRun endingRun ∧ (endingRun 0).Inv ∧ (endingRun 0).params.wf = true ∧
    (endingRun 0).params.tuMayFail = false ∧ (endingRun 0).engine ≠ .idle ∧ (endingRun 0).tu.tc = true :=
  ⟨endingRun_fair, ⟨rfl, rfl, by decide, by decide, by decide, rfl, rfl, rfl, by decide, (fun h => nomatch h),
    fun _ => ⟨by decide, by decide, by decide, by decide, by decide, by decide⟩⟩, by decide, by decide, by decide, rfl⟩

/-- At the ends of the assembler's ranges (R89), with 8 bytes. -/
theorem witness_DrawScriptDrawsItsOperands :
    let lines := (scriptDraw (2 ^ 31 - 1) (2 ^ 32 - 1) (2 ^ 32 - 1) [255, 0, 1, 2, 3, 4, 5, 255]).getD []
    let s := { ready with host := ⟨lines, 0, 0#32⟩, sched := List.replicate 6 Agent.host ++ [] }
    scriptDraw (2 ^ 31 - 1) (2 ^ 32 - 1) (2 ^ 32 - 1) [255, 0, 1, 2, 3, 4, 5, 255] = some lines ∧
    (scriptDraw (-2 ^ 31) 0 0 []).isSome = true ∧ scriptDraw 0 0 8 [256] = none ∧
    s.initDone = true ∧ s.irqPending = false ∧ s.host.lines = lines ∧ s.host.pc = 0 ∧
    s.sched = List.replicate 6 Agent.host ++ [] := by decide

/-- Line 1 of a script, with B = 0 and with B = 1. -/
theorem witness_WaitIdleLoopsWhileBusy :
    let s := scripted ready (scriptWaitIdle 1) 2
    s.irqPending = false ∧ s.busy = false ∧ (scripted streaming (scriptWaitIdle 1) 2).busy = true ∧
    (scripted streaming (scriptWaitIdle 1) 2).irqPending = false ∧
    s.host.lines = [scriptWr .x 0#32] ++ scriptWaitIdle [scriptWr .x 0#32].length ++ [] ∧
    s.host.pc = [scriptWr .x 0#32].length ∧ s.sched = .host :: .host :: [] := by decide

theorem witness_FlashWaitRetriesWhileBusy :
    let s := scripted streaming (scriptFlashWait 1) 3
    s.initDone = true ∧ s.busy = true ∧ s.irqPending = false ∧
    s.host.lines = [scriptWr .x 0#32] ++ scriptFlashWait [scriptWr .x 0#32].length ++ [] ∧
    s.host.pc = [scriptWr .x 0#32].length ∧ s.sched = .host :: .host :: .host :: [] := by decide

end Sys2Proof.Tests
end

/-! ### What a step leaves of the block: the frame of the host's register traffic, and growth
-/

namespace Sys2Proof.Machine

/-! #### The host's own fields -/

/-- The two states agree but for what only the main context and the model itself write: the framebuffer, the operand
registers, RESULT, and the fields `outcome`, `host`, `sched` and `turn` (40_framebuffer_memory.md R104, 10_state.md R22). -/
def State.SameBlock (s t : State) : Prop :=
  t = { s with
    fb := t.fb, regX := t.regX, regY := t.regY, regW := t.regW, regBm0 := t.regBm0, regBm1 := t.regBm1,
    result := t.result, outcome := t.outcome, host := t.host, sched := t.sched, turn := t.turn }

theorem State.SameBlock.refl (s : State) : s.SameBlock s := rfl

theorem State.SameBlock.trans {s t u : State} (hst : s.SameBlock t) (htu : t.SameBlock u) : s.SameBlock u := by
  unfold State.SameBlock at hst htu ⊢
  rw [hst] at htu
  exact htu

theorem State.turnTaken_sameBlock (s : State) : s.SameBlock s.turnTaken := by
  rw [State.turnTaken_eq]; rfl

theorem execClear_sameBlock {s t : State} (h : execClear s = .next t) : s.SameBlock t := by
  rcases execClear_cases s t h with ⟨-, rfl⟩ | ⟨-, rfl⟩ <;> rfl

theorem execDraw_sameBlock {n : BitVec 4} {s t : State} (h : execDraw n s = .next t) : s.SameBlock t := by
  rcases execDraw_cases n s t h with ⟨-, rfl⟩ | ⟨-, rfl⟩ | ⟨-, rfl⟩ <;> rfl

/-- The block under a host access: only INIT and FLASH reach further than the framebuffer, the operand registers and
RESULT. -/
theorem State.hostAccess_block {s t : State} {a : HostAccess} (h : s.hostAccess a = .next t) :
    s.SameBlock t ∨ execInit s = .next t ∨ execFlash s = .next t := by
  rcases s.hostAccess_cases t a h with ⟨r, rfl⟩ | rfl | ⟨v, rfl⟩ | ⟨v, rfl⟩ | ⟨v, rfl⟩ | ⟨v, rfl⟩ | ⟨v, rfl⟩ |
    ⟨why, rfl⟩ | hInit | hClear | ⟨n, -, hDraw⟩ | hFlash
  iterate 8 exact .inl rfl
  · exact .inr (.inl hInit)
  · exact .inl (execClear_sameBlock hClear)
  · exact .inl (execDraw_sameBlock hDraw)
  · exact .inr (.inr hFlash)

/-- The block under the host's step: unchanged, or changed by INIT or FLASH alone. -/
theorem State.hostStep_block {s t : State} (h : s.hostStep = .next t) :
    s.SameBlock t ∨ ∃ u, s.SameBlock u ∧ (execInit u = .next t ∨ execFlash u = .next t) := by
  rcases s.hostStep_cases t h with rfl | ⟨-, ⟨line, rfl⟩ | ⟨a, ha⟩⟩
  · exact .inl (.refl t)
  · exact .inl rfl
  · have hgo : s.SameBlock (s.hostGoto (s.host.pc + 1)) := rfl
    rcases State.hostAccess_block ha with hb | hcmd
    · exact .inl (hgo.trans hb)
    · exact .inr ⟨_, hgo, hcmd⟩

/-! #### Growth -/

/-- What no step takes back (10_state.md R30, R33, R35, R36): bus events, fault reasons, IE and INIT_DONE; and the
parameters stay (log 2). -/
structure State.Grows (s t : State) : Prop where
  params : t.params = s.params
  enable : s.ie = true → t.ie = true
  initDone : s.initDone = true → t.initDone = true
  trace : s.trace <+: t.trace
  faults : ∀ why, s.faults.has why = true → t.faults.has why = true

theorem State.Grows.refl (s : State) : s.Grows s :=
  ⟨rfl, id, id, List.prefix_rfl, fun _ => id⟩

theorem State.Grows.trans {s t u : State} (hst : s.Grows t) (htu : t.Grows u) : s.Grows u where
  params := htu.params.trans hst.params
  enable := htu.enable ∘ hst.enable
  initDone := htu.initDone ∘ hst.initDone
  trace := hst.trace.trans htu.trace
  faults why := htu.faults why ∘ hst.faults why

/-- A state that differs only in what `State.Grows` does not read. -/
theorem State.Grows.of_eq {s t : State} (params : t.params = s.params := by rfl) (enable : t.ie = s.ie := by rfl)
    (initDone : t.initDone = s.initDone := by rfl) (trace : t.trace = s.trace := by rfl)
    (faults : t.faults = s.faults := by rfl) : s.Grows t where
  params := params
  enable := enable.trans
  initDone := initDone.trans
  trace := trace ▸ List.prefix_rfl
  faults why := by rw [faults]; exact id

/-- Events on the bus, and otherwise only what `State.Grows` does not read. -/
theorem State.Grows.of_events {s t : State} (events : List BusEvent) (params : t.params = s.params := by rfl)
    (enable : t.ie = s.ie := by rfl) (initDone : t.initDone = s.initDone := by rfl)
    (trace : t.trace = s.trace ++ events := by rfl) (faults : t.faults = s.faults := by rfl) : s.Grows t where
  params := params
  enable := enable.trans
  initDone := initDone.trans
  trace := trace ▸ List.prefix_append _ _
  faults why := by rw [faults]; exact id

@[simp] theorem FaultMark.has_add (m : FaultMark) (why r : FaultReason) :
    (m.add why).has r = (decide (r = why) || m.has r) := by
  cases why <;> cases r <;> rfl

/-- Marking a fault takes nothing back. -/
theorem State.Grows.fault {s t : State} (h : s.Grows t) (why : FaultReason) : s.Grows (t.fault why) :=
  { h with faults := fun r hr => by simp [h.faults r hr] }

theorem State.SameBlock.grows {s t : State} (h : s.SameBlock t) : s.Grows t := by
  rw [h]; exact .of_eq

/-! #### Growth under each operation -/

/-- ENG_START with the transfer unit active, which no run of the block reaches (44_dma_streaming_engine.md R240). -/
theorem State.engineStart_active (s : State) (h : s.tu.active = true) (hc : s.queue.cursor.val < s.queue.count.val) :
    s.engineStart = .faulted (State.fault { s with
      queue := { s.queue with cursor := ⟨s.queue.cursor.val + 1, by omega⟩ } } .tuArmActive) := by
  simp [State.engineStart, State.qNext_some s hc, State.armSlot, State.transferArm, h]

theorem execInit_grows {s t : State} (h : execInit s = .next t) : s.Grows t := by
  rcases execInit_cases s t h with ⟨-, rfl⟩ | ⟨-, rfl⟩
  · exact .of_eq
  · exact ⟨rfl, fun _ => rfl, fun _ => rfl, List.prefix_append _ _, fun _ => id⟩

theorem execFlash_grows {s t : State} (h : execFlash s = .next t) : s.Grows t := by
  rcases execFlash_cases s t h with ⟨-, -, rfl⟩ | ⟨-, -, -, rfl⟩ | ⟨-, -, -, rfl⟩ | ⟨-, rfl⟩
  · exact .of_eq
  · exact .of_events [.csAssert]
  · exact .fault .of_eq _
  · exact .of_eq

theorem execFbRead_grows {r : Byte} {s t : State} (h : execFbRead r s = .next t) : s.Grows t := by
  unfold execFbRead at h
  split at h <;> cases h
  · exact .of_eq
  · exact .fault (.refl s) _

theorem execFbWrite_grows {r : Byte} {v : Word} {s t : State} (h : execFbWrite r v s = .next t) : s.Grows t := by
  unfold execFbWrite at h
  by_cases hr : r.toNat < 8
  · rw [s.fbSetRow_some _ v hr] at h
    cases h; exact .of_eq
  · rw [s.fbSetRow_none _ v (by omega)] at h
    cases h; exact .fault (.refl s) _

theorem execQReset_grows {s t : State} (h : execQReset s = .next t) : s.Grows t := by
  cases next_inj h
  cases ha : s.tu.active
  · rw [s.qReset_idle ha]; exact .of_eq
  · rw [s.qReset_active ha]; exact .of_eq

theorem execQStage_grows {rec : Record} {s t : State} (h : execQStage rec s = .next t) : s.Grows t := by
  cases next_inj h
  rcases s.qStage_cases rec with ⟨-, e⟩ | ⟨-, -, e⟩ | ⟨-, hc, e⟩ <;> rw [e] <;> exact .of_eq

theorem execQNext_grows {s t : State} (h : execQNext s = .next t) : s.Grows t := by
  unfold execQNext at h
  by_cases hc : s.queue.cursor.val < s.queue.count.val
  · rw [s.qNext_some hc] at h
    cases h; exact .of_eq
  · rw [s.qNext_none (by omega)] at h
    cases h; exact .of_eq

theorem execEngStart_grows {s t : State} (h : execEngStart s = .next t) : s.Grows t := by
  unfold execEngStart at h
  by_cases hc : s.queue.cursor.val < s.queue.count.val
  · cases ha : s.tu.active
    · rw [s.engineStart_ready ha hc] at h
      cases h; exact .of_events [.csAssert]
    · rw [s.engineStart_active ha hc] at h
      cases h; exact .fault .of_eq _
  · rw [s.engineStart_empty (by omega)] at h
    cases h; exact .fault (.refl s) _

theorem execEngIrq_grows {s t : State} (h : execEngIrq s = .next t) : s.Grows t := by
  rcases execEngIrq_cases s t h with rfl | ⟨-, -, rfl⟩ | ⟨-, -, -, rfl⟩ | ⟨-, -, -, -, -, c, -, rfl⟩ |
    ⟨-, -, -, -, -, c, -, rfl⟩ | ⟨-, -, -, -, rfl⟩
  · exact .refl t
  · exact .of_eq
  · exact .fault .of_eq _
  · exact .of_events [.csDeassert, .csAssert]
  · exact .fault (.of_events [.csDeassert, .csAssert]) _
  · exact .of_events _ (trace := List.append_assoc ..)

theorem execFinalize_grows {s t : State} (h : execFinalize s = .next t) : s.Grows t := by
  unfold execFinalize at h
  split at h <;> cases h
  · exact .of_eq
  · rw [State.latch_eq]; exact .of_events [.csDeassert, .csAssert]

theorem execSeqRow_grows {r : BitVec 3} {v : Word} {s t : State} (h : execSeqRow r v s = .next t) : s.Grows t := by
  cases next_inj h; exact .of_eq

theorem execBusWord_grows {addr data : Byte} {s t : State} (h : execBusWord addr data s = .next t) : s.Grows t := by
  cases next_inj h; exact .of_events [.word (commandWord addr data)]

/-- Every operation only grows the state, from every state. -/
theorem exec_grows {i : Instr} {s t : State} (h : exec i s = .next t) : s.Grows t := by
  cases i with
  | init => exact execInit_grows h
  | clear => exact (execClear_sameBlock h).grows
  | draw n => exact (execDraw_sameBlock h).grows
  | flash => exact execFlash_grows h
  | fbRead r => exact execFbRead_grows h
  | fbWrite r v => exact execFbWrite_grows h
  | qReset => exact execQReset_grows h
  | qStage rec => exact execQStage_grows h
  | qNext => exact execQNext_grows h
  | engStart => exact execEngStart_grows h
  | engIrq => exact execEngIrq_grows h
  | finalize => exact execFinalize_grows h
  | seqRow r v => exact execSeqRow_grows h
  | busWord addr data => exact execBusWord_grows h

/-! #### Growth under each agent's step -/

theorem State.hostStep_grows {s t : State} (h : s.hostStep = .next t) : s.Grows t := by
  rcases State.hostStep_block h with hb | ⟨u, hu, hInit | hFlash⟩
  · exact hb.grows
  · exact hu.grows.trans (execInit_grows hInit)
  · exact hu.grows.trans (execFlash_grows hFlash)

/-- Everything the test bench's step can do: its turn passes, or the first code's operation runs with the code taken off
or kept, or its CMD write is refused (log 14). -/
theorem State.benchStep_cases {s t : State} (h : s.benchStep = .next t) :
    t = s ∨ ∃ codes, (∃ i, exec i { s with bench := codes } = .next t) ∨
      ∃ why, t = State.refuse { s with bench := codes } why := by
  unfold State.benchStep at h
  split at h
  · exact .inl (next_inj h).symm
  · rename_i c rest _
    split at h
    · rename_i i _
      split at h
      · exact .inr ⟨s.bench, .inl ⟨i, h⟩⟩
      · exact .inr ⟨rest, .inl ⟨i, h⟩⟩
    · rename_i why _
      cases c with
      | cmd w => exact .inr ⟨rest, .inr ⟨why, (next_inj h).symm⟩⟩
      | internal op lanes => cases h
      | function r v => cases h
      | wire w => cases h

theorem State.benchStep_grows {s t : State} (h : s.benchStep = .next t) : s.Grows t := by
  rcases State.benchStep_cases h with rfl | ⟨codes, ⟨i, hi⟩ | ⟨why, rfl⟩⟩
  · exact .refl t
  · exact State.Grows.trans .of_eq (exec_grows hi)
  · exact .of_eq

theorem State.tuMove_grows (s : State) : s.Grows s.tuMove := by
  rcases s.tuMove_cases with ⟨-, e⟩ | ⟨-, -, e⟩ | ⟨-, h, -, e⟩ <;> rw [e]
  · exact .refl s
  · exact .fault (.refl s) _
  · exact .of_eq

theorem State.tuFail_grows (s : State) : s.Grows s.tuFail := by
  rcases s.tuFail_cases with e | ⟨-, -, e⟩ <;> rw [e] <;> exact .of_eq

theorem State.tuOther_grows (s : State) : s.Grows s.tuOther := by
  rcases s.tuOther_cases with e | ⟨-, -, e⟩ <;> rw [e] <;> exact .of_eq

theorem State.shShift_grows (s : State) : s.Grows s.shShift := by
  rcases s.shShift_cases with ⟨-, e⟩ | ⟨h, rest, -, e⟩ <;> rw [e]
  · exact .refl s
  · exact .of_events [.word h]

theorem State.agentStep_grows {s t : State} {a : Agent} (h : s.agentStep a = .next t) : s.Grows t := by
  cases a with
  | host => exact State.hostStep_grows h
  | bench => exact State.benchStep_grows h
  | irq => exact execEngIrq_grows h
  | tuMove => exact next_inj h ▸ s.tuMove_grows
  | tuFail => exact next_inj h ▸ s.tuFail_grows
  | tuOther => exact next_inj h ▸ s.tuOther_grows
  | shShift => exact next_inj h ▸ s.shShift_grows

/-- Every step only grows the state, from every state and whoever steps. -/
theorem step_grows {s t : State} (h : step s = .next t) : s.Grows t :=
  s.turnTaken_sameBlock.grows.trans (State.agentStep_grows h)

/-- Settles O47: every step grows the trace by a suffix and keeps each fault reason. -/
theorem traceAndFaultMarkOnlyGrow : Obligations.TraceAndFaultMarkOnlyGrow := by
  intro s t h
  obtain ⟨-, -, -, ⟨events, htrace⟩, hfaults⟩ := step_grows h
  exact ⟨⟨events, htrace.symm⟩, hfaults⟩

/-- Settles O51: every step keeps IE, INIT_DONE and the parameters. -/
theorem enableAndInitAreNeverCleared : Obligations.EnableAndInitAreNeverCleared := by
  intro s t h
  obtain ⟨hparams, henable, hinit, -, -⟩ := step_grows h
  exact ⟨henable, hinit, hparams⟩

end Sys2Proof.Machine

/-! ### The invariant of the block under every step
-/

namespace Sys2Proof.Machine

/-- The invariant reads nothing of what the host's register traffic writes. -/
theorem State.Inv.of_sameBlock {s t : State} (h : s.Inv) (hst : s.SameBlock t) : t.Inv := by
  rw [hst]
  exact { h with
    atRest := fun e => { h.atRest e with }
    inStream := fun e => { h.inStream e with } }

/-! #### What the invariant says of a stream -/

theorem State.Inv.initDone_of_stream {s : State} (h : s.Inv) (he : s.engine ≠ .idle) : s.initDone = true := by
  cases hd : s.initDone
  · exact absurd (h.idleBeforeInit hd) he
  · rfl

theorem State.Inv.idle_of_not_busy {s : State} (h : s.Inv) (hb : s.busy = false) : s.engine = .idle := by
  by_contra he
  exact Bool.false_ne_true (hb.symm.trans (h.busyEngine.mpr he))

theorem State.Inv.stream_of_active {s : State} (h : s.Inv) (ha : s.tu.active = true) : s.engine ≠ .idle :=
  fun he => Bool.false_ne_true ((h.atRest he).idle.symm.trans ha)

theorem State.Inv.stream_of_complete {s : State} (h : s.Inv) (hc : s.tu.tc = true) : s.engine ≠ .idle :=
  fun he => Bool.false_ne_true ((h.atRest he).noCompletion.symm.trans hc)

/-- A transfer unit that has completed its record is no longer active, so arming it is no fault. -/
theorem State.InStream.idle_of_complete {s : State} (h : s.InStream) (hc : s.tu.tc = true) : s.tu.active = false := by
  cases ha : s.tu.active
  · rfl
  · have hk := h.moving ha
    have hk4 := h.complete.mp hc
    omega

/-- While halfwords are left, the address the transfer unit reads is one of the record before the cursor, so
TU_ADDRESS is never marked (20_memory.md R53). -/
theorem State.InStream.reads_record {s : State} (h : s.InStream) (hk : s.tu.k < 4) :
    qMemRead s.params s.queue.slots (s.tu.src + 2 * s.tu.k) =
      some (s.queue.slots[s.queue.cursor.val - 1])[s.tu.k] := by
  have hcur := s.queue.cursor.isLt
  have htaken := h.taken
  rw [h.armed, qMemRead_half _ _ _ _ (by omega) hk]

/-! #### The host's steps -/

theorem execInit_inv {s t : State} (hs : s.Inv) (h : execInit s = .next t) : t.Inv := by
  rcases execInit_cases s t h with ⟨-, rfl⟩ | ⟨hd, rfl⟩
  · exact hs.of_sameBlock rfl
  · have he : s.engine = .idle := hs.idleBeforeInit hd
    exact { hs with
      enableInit := rfl
      serialInit := rfl
      selectInit := rfl
      idleBeforeInit := nofun
      atRest := fun _ => { hs.atRest he with }
      inStream := fun hne => absurd he hne }

/-- An accepted FLASH finds the transfer unit at rest, so it is never the fault of R211, and it leaves a stream that
serves record 0 with the cursor at 1. -/
theorem execFlash_inv {s t : State} (hs : s.Inv) (h : execFlash s = .next t) : t.Inv := by
  rcases execFlash_cases s t h with ⟨-, -, rfl⟩ | ⟨hd, hb, -, rfl⟩ | ⟨-, hb, ha, -⟩ | ⟨-, rfl⟩
  · exact hs.of_sameBlock rfl
  · have rest := hs.atRest (hs.idle_of_not_busy hb)
    exact { hs with
      busyEngine := by simp
      cursorCount := Fin.le_def.mpr (by decide : 1 ≤ 8)
      selectInit := by simp [hd]
      idleBeforeInit := by simp [hd]
      atRest := nofun
      inStream := fun _ => {
        taken := le_rfl
        armed := rfl
        length := rfl
        progress := by simp
        moving := by simp
        complete := by simp [rest.noCompletion] } }
  · exact absurd (hs.idle_of_not_busy hb) (hs.stream_of_active ha)
  · exact hs.of_sameBlock rfl

theorem State.hostStep_inv {s t : State} (hs : s.Inv) (h : s.hostStep = .next t) : t.Inv := by
  rcases State.hostStep_block h with hb | ⟨u, hu, hInit | hFlash⟩
  · exact hs.of_sameBlock hb
  · exact execInit_inv (hs.of_sameBlock hu) hInit
  · exact execFlash_inv (hs.of_sameBlock hu) hFlash

/-- With nothing at its port the test bench's turn passes. -/
theorem State.benchStep_inv {s t : State} (hs : s.Inv) (h : s.benchStep = .next t) : t.Inv := by
  simp only [State.benchStep, hs.benchEmpty] at h
  exact next_inj h ▸ hs

/-! #### The engine continuation -/

/-- A pass for another cause only clears flags: a stream's completion flag was 0 already. -/
theorem State.Inv.transferClearInterrupt {s : State} (hs : s.Inv) (hc : s.tu.tc = false) :
    s.transferClearInterrupt.Inv :=
  { hs with
    atRest := fun he => { hs.atRest he with noCompletion := rfl, noOther := rfl }
    inStream := fun he => { hs.inStream he with complete := by simpa [hc] using (hs.inStream he).complete } }

/-- A pass of ENG_IRQ. The two faults need a completion with E Idle, or one with the transfer unit still active. -/
theorem execEngIrq_inv {s t : State} (hs : s.Inv) (h : execEngIrq s = .next t) : t.Inv := by
  rcases execEngIrq_cases s t h with rfl | ⟨-, hc, rfl⟩ | ⟨-, hc, he, -⟩ | ⟨-, hc, he, -, hlt, c, hcur, rfl⟩ |
    ⟨-, hc, he, ha, -⟩ | ⟨hen, hc, he, -, rfl⟩
  · exact hs
  · exact (hs.transferClearInterrupt hc).of_sameBlock rfl
  · exact absurd he (hs.stream_of_complete hc)
  · have hd := hs.initDone_of_stream he
    exact { hs with
      busyEngine := by simp [hs.busyEngine.mpr he]
      cursorCount := Fin.le_def.mpr (hcur.trans_le hlt)
      serialInit := hd.symm
      selectInit := by simp [hd]
      idleBeforeInit := by simp [hd]
      atRest := nofun
      inStream := fun _ => {
        taken := hcur ▸ Nat.succ_pos _
        armed := by simp [hcur]
        length := rfl
        progress := by simp
        moving := by simp
        complete := by simp } }
  · have hidle := (hs.inStream he).idle_of_complete hc
    exact absurd (hidle.symm.trans ha) Bool.false_ne_true
  · have hd := hs.initDone_of_stream he
    have hempty : s.shifter.pending = [] := by
      simp only [State.irqEnabled_eq, hc, Bool.and_eq_true] at hen
      simpa using hen.2
    exact { hs with
      busyEngine := by simp
      serialInit := hd.symm
      selectInit := by simp [hd]
      idleBeforeInit := fun _ => rfl
      atRest := fun _ => {
        idle := (hs.inStream he).idle_of_complete hc
        noCompletion := rfl
        noOther := rfl
        shifted := hempty }
      inStream := fun hne => absurd rfl hne }

/-! #### The transfer unit and the shifter -/

theorem State.tuMoveEnabled_iff (s : State) : s.tuMoveEnabled = true ↔
    s.tu.active = true ∧ s.tu.k < s.tu.n ∧ s.shifter.pending.length < s.params.shifterDepth := by
  simp [State.tuMoveEnabled, and_assoc]

/-- One halfword handed over keeps the stream's progress: with the fourth the unit is idle and completion raised. -/
theorem State.InStream.tuMoveHalf {s : State} (h : s.InStream) (ha : s.tu.active = true) (half : Half) :
    (s.tuMoveHalf half).InStream where
  taken := h.taken
  armed := h.armed
  length := h.length
  progress := h.moving ha
  moving := by
    have hk := h.moving ha
    simp only [State.tuMoveHalf, h.length, ha, Bool.true_and, decide_eq_true_eq]
    omega
  complete := by
    have hk := h.moving ha
    have htc : s.tu.tc = false := by
      rw [Bool.eq_false_iff, Ne, h.complete]; omega
    simp [State.tuMoveHalf, h.length, htc]

theorem State.tuMove_inv {s : State} (hs : s.Inv) : s.tuMove.Inv := by
  rcases s.tuMove_cases with ⟨-, e⟩ | ⟨hen, hnone, -⟩ | ⟨hen, half, -, e⟩
  · rwa [e]
  · obtain ⟨ha, hk, -⟩ := s.tuMoveEnabled_iff.mp hen
    have stream := hs.inStream (hs.stream_of_active ha)
    rw [stream.reads_record (stream.moving ha)] at hnone
    cases hnone
  · obtain ⟨ha, -, hroom⟩ := s.tuMoveEnabled_iff.mp hen
    have he := hs.stream_of_active ha
    rw [e]
    exact { hs with
      shifterRoom := by simpa [State.tuMoveHalf] using hroom
      atRest := fun hidle => absurd hidle he
      inStream := fun _ => (hs.inStream he).tuMoveHalf ha half }

theorem State.tuFail_inv {s : State} (hs : s.Inv) : s.tuFail.Inv := by
  rcases s.tuFail_cases with e | ⟨-, ha, e⟩ <;> rw [e]
  · exact hs
  · have he := hs.stream_of_active ha
    exact { hs with
      atRest := fun hidle => absurd hidle he
      inStream := fun _ => { hs.inStream he with moving := nofun } }

theorem State.tuOther_inv {s : State} (hs : s.Inv) : s.tuOther.Inv := by
  rcases s.tuOther_cases with e | ⟨-, ha, e⟩ <;> rw [e]
  · exact hs
  · have he := hs.stream_of_active ha
    exact { hs with
      atRest := fun hidle => absurd hidle he
      inStream := fun _ => { hs.inStream he with } }

theorem State.shShift_inv {s : State} (hs : s.Inv) : s.shShift.Inv := by
  rcases s.shShift_cases with ⟨-, e⟩ | ⟨h, rest, hp, e⟩ <;> rw [e]
  · exact hs
  · have hroom := hs.shifterRoom
    rw [hp, List.length_cons] at hroom
    exact { hs with
      shifterRoom := Nat.le_of_succ_le hroom
      atRest := fun hidle => nomatch hp.symm.trans (hs.atRest hidle).shifted
      inStream := fun he => { hs.inStream he with } }

/-! #### Every step -/

theorem State.agentStep_inv {s t : State} {a : Agent} (hs : s.Inv) (h : s.agentStep a = .next t) : t.Inv := by
  cases a with
  | host => exact State.hostStep_inv hs h
  | bench => exact State.benchStep_inv hs h
  | irq => exact execEngIrq_inv hs h
  | tuMove => exact next_inj h ▸ State.tuMove_inv hs
  | tuFail => exact next_inj h ▸ State.tuFail_inv hs
  | tuOther => exact next_inj h ▸ State.tuOther_inv hs
  | shShift => exact next_inj h ▸ State.shShift_inv hs

/-- Settles O46: the turn is no part of the invariant, and each agent's step keeps it. -/
theorem everyStepKeepsTheInvariant : Obligations.EveryStepKeepsTheInvariant := fun s _ hs h =>
  State.agentStep_inv (hs.of_sameBlock s.turnTaken_sameBlock) h

end Sys2Proof.Machine

/-! ### The queue's address map (20_memory.md R53) -/

namespace Sys2Proof.Machine

/-- What QMemRead refuses (20_memory.md R53). -/
theorem qMemRead_eq_none_iff (p : Params) (slots : Slots) (addr : Nat) :
    qMemRead p slots addr = none ↔
      addr < p.qbase ∨ p.qbase + 64 ≤ addr ∨ (addr - p.qbase) % 2 ≠ 0 := by
  unfold qMemRead
  split
  next hin => simp only [reduceCtorEq, false_iff]; omega
  next hout => simp only [true_iff]; omega

/-- A move from an address that reads nothing only marks the fault. -/
theorem State.tuMove_fault {s : State} (hen : s.tuMoveEnabled = true)
    (hnone : qMemRead s.params s.queue.slots (s.tu.src + 2 * s.tu.k) = none) :
    s.tuMove = s.fault .tuAddress := by
  rcases s.tuMove_cases with ⟨hdis, -⟩ | ⟨-, -, e⟩ | ⟨-, half, hsome, -⟩
  · exact absurd (hen.symm.trans hdis) nofun
  · exact e
  · exact absurd (hnone.symm.trans hsome) nofun

/-- Settles O36: a halfword's address is `slotAddress` plus its offset, and every address QMemRead refuses faults the
move from it. -/
theorem queueMemoryEndsAtSixtyFourBytes : Obligations.QueueMemoryEndsAtSixtyFourBytes := by
  intro s addr
  refine ⟨fun k j hk hj haddr => ?_, fun hout => ?_⟩
  · subst haddr
    exact qMemRead_half _ _ k j hk hj
  · have hnone := (qMemRead_eq_none_iff s.params s.queue.slots addr).mpr hout
    refine ⟨hnone, fun haddr hen => ?_⟩
    subst haddr
    exact State.tuMove_fault hen hnone

end Sys2Proof.Machine

/-! ### The host's registers, CMD words and accesses (30_encoding.md R70 to R82)
-/

namespace Sys2Proof.Machine

/-! #### Where the fields of a word stand -/

theorem commandWord_toNat (addr data : Byte) : (commandWord addr data).toNat = addr.toNat * 256 + data.toNat := by
  rw [commandWord, BitVec.toNat_append, ← Nat.shiftLeft_add_eq_or_of_lt data.isLt, Nat.shiftLeft_eq]

/-- CMD.OP as a number (30_encoding.md R72). -/
theorem cmdOp_eq_iff (w : Word) (k : BitVec 4) : cmdOp w = k ↔ w.toNat % 16 = k.toNat := by
  rw [← BitVec.toNat_inj, cmdOp, BitVec.extractLsb'_toNat, Nat.shiftRight_zero]

/-- CMD.BMLEN as a number (30_encoding.md R72). -/
theorem cmdBmlen_toNat (w : Word) : (cmdBmlen w).toNat = w.toNat / 16 % 16 := by
  rw [cmdBmlen, BitVec.extractLsb'_toNat, Nat.shiftRight_eq_div_pow]

/-- CMD's reserved bits, which reach to the top of the word, as a number (30_encoding.md R72). -/
theorem cmdReserved_eq_zero_iff (w : Word) : cmdReserved w = 0#24 ↔ w.toNat / 256 = 0 := by
  have hw := w.isLt
  rw [← BitVec.toNat_inj, cmdReserved, BitVec.extractLsb'_toNat, Nat.shiftRight_eq_div_pow, BitVec.toNat_ofNat]
  omega

/-! #### STATUS (30_encoding.md R75) -/

theorem State.status_busy (s : State) : s.status.getLsbD 0 = s.busy := by
  simp only [State.status, BitVec.getLsbD_append, BitVec.getLsbD_ofBool]
  rfl

theorem State.status_engine (s : State) : s.status.extractLsb' 1 2 = engineCode s.engine := by
  simp (disch := omega) only [State.status, BitVec.extractLsb'_append_eq_of_add_le, BitVec.extractLsb'_append_eq_of_le]
  exact BitVec.extractLsb'_eq_self

theorem State.status_result (s : State) : s.status.extractLsb' 3 2 = resultCode s.result := by
  simp (disch := omega) only [State.status, BitVec.extractLsb'_append_eq_of_add_le, BitVec.extractLsb'_append_eq_of_le]
  exact BitVec.extractLsb'_eq_self

theorem State.status_initDone (s : State) : s.status.getLsbD 5 = s.initDone := by
  simp only [State.status, BitVec.getLsbD_append, BitVec.getLsbD_ofBool]
  rfl

/-- Q.count and Q.cursor, 0 to 8, fit their 4 bits. -/
theorem toNat_ofNat_count (n : Fin 9) : (BitVec.ofNat 4 n.val).toNat = n.val :=
  Nat.mod_eq_of_lt (by omega)

theorem State.status_count (s : State) : (s.status.extractLsb' 6 4).toNat = s.queue.count.val := by
  simp (disch := omega) only [State.status, BitVec.extractLsb'_append_eq_of_add_le, BitVec.extractLsb'_append_eq_of_le]
  exact (congrArg BitVec.toNat BitVec.extractLsb'_eq_self).trans (toNat_ofNat_count _)

theorem State.status_cursor (s : State) : (s.status.extractLsb' 10 4).toNat = s.queue.cursor.val := by
  simp (disch := omega) only [State.status, BitVec.extractLsb'_append_eq_of_add_le, BitVec.extractLsb'_append_eq_of_le]
  exact (congrArg BitVec.toNat BitVec.extractLsb'_eq_self).trans (toNat_ofNat_count _)

theorem State.status_fault (s : State) : s.status.getLsbD 14 = s.faults.nonEmpty := by
  simp only [State.status, BitVec.getLsbD_append, BitVec.getLsbD_ofBool]
  rfl

theorem State.status_reserved (s : State) : s.status.extractLsb' 15 17 = 0#17 := by
  simp (disch := omega) only [State.status, BitVec.extractLsb'_append_eq_of_le]
  exact BitVec.extractLsb'_eq_self

theorem FaultMark.nonEmpty_iff (m : FaultMark) : m.nonEmpty = true ↔ m ≠ FaultMark.empty := by
  obtain ⟨a, b, c, d, e⟩ := m
  grind [FaultMark.nonEmpty, FaultMark.empty]

/-- Settles O5: each field of STATUS, by its place in the word. -/
theorem statusFieldsReadTheState : Obligations.StatusFieldsReadTheState := fun s =>
  ⟨s.status_busy, s.status_engine, s.status_result, s.status_initDone, s.status_count, s.status_cursor,
    s.status_fault ▸ s.faults.nonEmpty_iff, s.status_reserved⟩

/-- Settles O20: a bus word's number, and the word on the trace. -/
theorem busWordIsAddressThenData : Obligations.BusWordIsAddressThenData := fun _ addr data =>
  ⟨commandWord addr data, commandWord_toNat addr data, rfl⟩

end Sys2Proof.Machine

/-! ### The register bank under the host's accesses (30_encoding.md R70 to R80)
-/

namespace Sys2Proof.Machine

/-! #### Reads and writes of the registers -/

/-- The registers a write leaves as they are (30_encoding.md R71, R80). -/
def readOnlyRegs : List HostReg := [.status, .reserved, .fb 0, .fb 1, .fb 2, .fb 3, .fb 4, .fb 5, .fb 6, .fb 7]

/-- The registers of 30_encoding.md R71, in the order of their offsets. -/
def hostRegs : List HostReg := [.cmd, .x, .y, .w, .bm0, .bm1] ++ readOnlyRegs

/-- What a register write stores; CMD is written by `State.writeCmd`. -/
def State.store (s : State) (v : Word) : HostReg → State
  | .x => { s with regX := v, outcome := .ok }
  | .y => { s with regY := v, outcome := .ok }
  | .w => { s with regW := v, outcome := .ok }
  | .bm0 => { s with regBm0 := v, outcome := .ok }
  | .bm1 => { s with regBm1 := v, outcome := .ok }
  | .cmd | .status | .reserved | .fb _ => s.returns .ok

theorem State.writeReg_eq_store (s : State) {r : HostReg} (v : Word) (h : r ≠ .cmd) :
    s.writeReg r v = .next (s.store v r) := by
  cases r with
  | cmd => exact absurd rfl h
  | _ => rfl

theorem State.store_readOnly (s : State) (v : Word) {r : HostReg} (h : r ∈ readOnlyRegs) : s.store v r = s.returns .ok := by
  cases r with
  | x | y | w | bm0 | bm1 => exact absurd h (by decide)
  | _ => rfl

theorem ne_cmd_of_readOnly {r : HostReg} (h : r ∈ readOnlyRegs) : r ≠ .cmd := by
  rintro rfl
  exact absurd h (by decide)

/-- Settles O6: the statement's rows are the registers' offsets and values. -/
theorem registerReadsReturnTheirValue : Obligations.RegisterReadsReturnTheirValue := by
  intro s offset v hrow
  have hmem : (offset, v) ∈ hostRegs.map fun r => (regOffset r, s.readReg r) := hrow
  obtain ⟨r, -, hr⟩ := List.mem_map.mp hmem
  cases hr
  exact s.hostAccess_read r

/-- Settles O7: the operand registers store, and the other ten offsets are the read-only registers'. -/
theorem registerWritesStoreOrAreIgnored : Obligations.RegisterWritesStoreOrAreIgnored := by
  intro s v
  refine ⟨s.hostAccess_write .x v, s.hostAccess_write .y v, s.hostAccess_write .w v, s.hostAccess_write .bm0 v,
    s.hostAccess_write .bm1 v, fun offset hoff => ?_⟩
  have hmem : offset ∈ readOnlyRegs.map regOffset := hoff
  obtain ⟨r, hr, rfl⟩ := List.mem_map.mp hmem
  rw [s.hostAccess_write, s.writeReg_eq_store v (ne_cmd_of_readOnly hr), s.store_readOnly v hr]
  rfl

/-! #### Which accesses are taken -/

theorem regAt_eq_none {offset : Nat} (h : 0x40 ≤ offset) : regAt offset = none := by
  have hne : ∀ k < 0x40, offset ≠ k := by omega
  simp [regAt, hne, h]

theorem accessReg_narrow {offset : Nat} {size : AccessSize} (h : size ≠ .bits32) :
    accessReg offset size = .error .accessWidth := if_pos h

theorem accessReg_unaligned {offset : Nat} (h : offset % 4 ≠ 0) :
    accessReg offset .bits32 = .error .accessUnaligned := by
  simp [accessReg, h]

theorem accessReg_outside {offset : Nat} (haligned : offset % 4 = 0) (h : 0x40 ≤ offset) :
    accessReg offset .bits32 = .error .accessRange := by
  simp [accessReg, haligned, regAt_eq_none h]

theorem State.hostAccess_refused (s : State) {offset : Nat} {size : AccessSize} {why : Refusal} (v : Word)
    (h : accessReg offset size = .error why) :
    s.hostAccess (.read offset size) = .refused why ∧ s.hostAccess (.write offset size v) = .refused why := by
  simp [State.hostAccess, h]

/-- Settles O8: each check of R80 in turn. -/
theorem badAccessesAreRefused : Obligations.BadAccessesAreRefused := by
  intro s offset size v
  refine ⟨fun hsize => s.hostAccess_refused v (accessReg_narrow hsize), ?_, ?_⟩
  · rintro rfl hoff
    exact s.hostAccess_refused v (accessReg_unaligned hoff)
  · rintro rfl haligned hoff
    exact s.hostAccess_refused v (accessReg_outside haligned hoff)

/-- Below 0x40 every word offset is a register's (30_encoding.md R71). -/
theorem exists_regOffset {offset : Nat} (haligned : offset % 4 = 0) (hlt : offset < 0x40) :
    ∃ r, offset = regOffset r := by
  by_cases hfb : 0x20 ≤ offset
  · refine ⟨.fb ⟨(offset - 0x20) / 4, by omega⟩, ?_⟩
    simp only [regOffset]
    omega
  · have hlow : offset = 0x00 ∨ offset = 0x04 ∨ offset = 0x08 ∨ offset = 0x0C ∨ offset = 0x10 ∨ offset = 0x14 ∨
        offset = 0x18 ∨ offset = 0x1C := by omega
    rcases hlow with rfl | rfl | rfl | rfl | rfl | rfl | rfl | rfl
    exacts [⟨.cmd, rfl⟩, ⟨.x, rfl⟩, ⟨.y, rfl⟩, ⟨.w, rfl⟩, ⟨.bm0, rfl⟩, ⟨.bm1, rfl⟩, ⟨.status, rfl⟩, ⟨.reserved, rfl⟩]

/-! #### What a CMD write answers -/

theorem execInit_next (s : State) : ∃ t, execInit s = .next t := by
  unfold execInit; split <;> exact ⟨_, rfl⟩

theorem execClear_next (s : State) : ∃ t, execClear s = .next t := by
  unfold execClear; split <;> exact ⟨_, rfl⟩

theorem execDraw_next (n : BitVec 4) (s : State) : ∃ t, execDraw n s = .next t := by
  unfold execDraw
  split
  · exact ⟨_, rfl⟩
  · split <;> exact ⟨_, rfl⟩

theorem execFlash_next (s : State) : ∃ t, execFlash s = .next t := by
  unfold execFlash
  split
  · split
    · exact ⟨_, rfl⟩
    · split <;> exact ⟨_, rfl⟩
  · exact ⟨_, rfl⟩

theorem State.writeCmd_next (s : State) (w : Word) : ∃ t, s.writeCmd w = .next t := by
  rcases s.writeCmd_cases w with ⟨why, e⟩ | e | e | ⟨n, -, e⟩ | e <;> rw [e]
  · exact ⟨_, rfl⟩
  · exact execInit_next s
  · exact execClear_next s
  · exact execDraw_next n s
  · exact execFlash_next s

theorem State.writeReg_next (s : State) (r : HostReg) (v : Word) : ∃ t, s.writeReg r v = .next t := by
  by_cases hr : r = .cmd
  · subst hr; exact s.writeCmd_next v
  · exact ⟨_, s.writeReg_eq_store v hr⟩

/-- Settles O9: an access the register space takes names a register, and every read and write of one answers. -/
theorem goodAccessesAnswerANextState : Obligations.GoodAccessesAnswerANextState := by
  intro s a ha
  cases a with
  | write offset size v =>
    simp only [HostAccess.wf, Bool.and_eq_true, decide_eq_true_eq] at ha
    obtain ⟨⟨rfl, haligned⟩, hlt⟩ := ha
    obtain ⟨r, rfl⟩ := exists_regOffset haligned hlt
    exact s.hostAccess_write r v ▸ s.writeReg_next r v
  | read offset size =>
    simp only [HostAccess.wf, Bool.and_eq_true, decide_eq_true_eq] at ha
    obtain ⟨⟨rfl, haligned⟩, hlt⟩ := ha
    obtain ⟨r, rfl⟩ := exists_regOffset haligned hlt
    exact ⟨_, s.hostAccess_read r⟩

/-! #### The outcomes of a CMD write (30_encoding.md R78) -/

/-- The host command of an OP from 1 to 4 (30_encoding.md R77). -/
def hostCommand (op len : Nat) : Instr :=
  if op = 1 then .init else if op = 2 then .clear else if op = 3 then .draw (BitVec.ofNat 4 len) else .flash

/-- The decoder's part of R78, on the numbers of CMD's fields. -/
theorem decodeCmd_eq (w : Word) : decodeCmd w =
    if w.toNat / 256 ≠ 0 then .error .reservedBits
    else if w.toNat % 16 = 0 ∨ 4 < w.toNat % 16 then .error .reservedOp
    else if w.toNat % 16 ≠ 3 ∧ w.toNat / 16 % 16 ≠ 0 then .error .reservedBits
    else if w.toNat % 16 = 3 ∧ 8 < w.toNat / 16 % 16 then .error .bmlenRange
    else .ok (hostCommand (w.toNat % 16) (w.toNat / 16 % 16)) := by
  have hlen : cmdBmlen w = BitVec.ofNat 4 (w.toNat / 16 % 16) := by
    rw [← cmdBmlen_toNat, BitVec.ofNat_toNat, BitVec.setWidth_eq]
  have hop : ¬ (w.toNat % 16 = 1 ∨ w.toNat % 16 = 2 ∨ w.toNat % 16 = 3 ∨ w.toNat % 16 = 4) ↔
      w.toNat % 16 = 0 ∨ 4 < w.toNat % 16 := by omega
  have hzero : cmdBmlen w = 0#4 ↔ w.toNat / 16 % 16 = 0 := by
    rw [← BitVec.toNat_inj, cmdBmlen_toNat, BitVec.toNat_ofNat, Nat.zero_mod]
  have hlarge : 8#4 < cmdBmlen w ↔ 8 < w.toNat / 16 % 16 := by
    rw [BitVec.lt_def, cmdBmlen_toNat]; rfl
  have hcommand : (if cmdOp w = 0x1#4 then .ok .init else if cmdOp w = 0x2#4 then .ok .clear
      else if cmdOp w = 0x3#4 then .ok (.draw (cmdBmlen w)) else .ok .flash : Except CmdRefusal Instr) =
      .ok (hostCommand (w.toNat % 16) (w.toNat / 16 % 16)) := by
    simp only [hostCommand, apply_ite Except.ok, cmdOp_eq_iff, hlen]
    rfl
  rw [decodeCmd, hcommand]
  simp only [ne_eq, cmdReserved_eq_zero_iff, cmdOp_eq_iff, hzero, hlarge, BitVec.toNat_ofNat, Nat.reducePow,
    Nat.reduceMod, hop]

/-- A CMD write, as far as the decoder decides it (30_encoding.md R78). -/
theorem State.writeCmd_eq (s : State) (w : Word) : s.writeCmd w =
    if w.toNat / 256 ≠ 0 then .next (s.refuse .reservedBits)
    else if w.toNat % 16 = 0 ∨ 4 < w.toNat % 16 then .next (s.refuse .reservedOp)
    else if w.toNat % 16 ≠ 3 ∧ w.toNat / 16 % 16 ≠ 0 then .next (s.refuse .reservedBits)
    else if w.toNat % 16 = 3 ∧ 8 < w.toNat / 16 % 16 then .next (s.refuse .bmlenRange)
    else exec (hostCommand (w.toNat % 16) (w.toNat / 16 % 16)) s := by
  rw [State.writeCmd, decode, decodeCmd_eq]
  split_ifs <;> rfl

/-- INIT on a driver already constructed (30_encoding.md R78). -/
theorem execInit_reinit {s : State} (h : s.initDone = true) : execInit s = .next (s.refuse .reinit) := if_pos h

/-- Every host command but INIT waits for INIT (30_encoding.md R78). -/
theorem exec_hostCommand_notInit {s : State} {op len : Nat} (h : s.initDone = false) (hop : op ≠ 1)
    (hlen : op = 3 → len ≤ 8) : exec (hostCommand op len) s = .next (s.refuse .notInit) := by
  unfold hostCommand
  rw [if_neg hop]
  split
  · simp [exec, execClear, h]
  split
  · next h3 =>
    have hrange : ¬ 8#4 < BitVec.ofNat 4 len := by
      have := hlen h3
      rw [BitVec.lt_def, BitVec.toNat_ofNat, BitVec.toNat_ofNat]; omega
    simp [exec, execDraw, hrange, h]
  · simp [exec, execFlash, h]

/-- Settles O4: the decoder's four checks, then the two that read INIT_DONE. -/
theorem cmdWriteTakesTheFirstApplicableOutcome : Obligations.CmdWriteTakesTheFirstApplicableOutcome := by
  refine ⟨rfl, fun s w => ?_⟩
  intro refused op len
  have hwrite : s.hostAccess (.write 0x00 .bits32 w) = s.writeCmd w := s.hostAccess_write .cmd w
  rw [hwrite, s.writeCmd_eq]
  refine if_congr .rfl rfl (if_congr .rfl rfl (if_congr .rfl rfl (ite_congr rfl (fun _ => rfl) fun hrange => ?_)))
  split
  · next hre => exact (congrArg (exec · s) (if_pos hre.1)).trans (execInit_reinit hre.2)
  split
  · next hnot => exact exec_hostCommand_notInit hnot.2 hnot.1 (by omega)
  · rfl

end Sys2Proof.Machine

/-! ### The turns of the host and the test bench (30_encoding.md R78, R81, R87 to R91)
-/

namespace Sys2Proof.Machine

/-! #### One turn of the host -/

theorem State.irqPending_eq_false_iff (s : State) :
    s.irqPending = false ↔ s.ie = false ∨ (s.tu.tc = false ∧ s.tu.other = false) := by
  rw [s.irqPending_eq, Bool.and_eq_false_iff, Bool.or_eq_false_iff]

/-- The state in which the host's access is made: the turn is given out and the host is at its next line (log 1, log 15). -/
def State.hostTurn (s : State) (rest : List Agent) : State :=
  { s with sched := rest, host := { s.host with pc := s.host.pc + 1 } }

theorem State.hostStep_line {s : State} {line : HostLine} (hirq : s.irqPending = false)
    (hline : s.host.lines[s.host.pc]? = some line) : s.hostStep = s.hostLine line := by
  simp [State.hostStep, hirq, hline]

section

variable {s : State} {rest : List Agent} (hsched : s.sched = .host :: rest) (hirq : s.irqPending = false)

include hsched hirq

theorem step_hostLine {line : HostLine} (hline : s.host.lines[s.host.pc]? = some line) :
    step s = State.hostLine { s with sched := rest } line :=
  (step_cons s .host rest hsched).trans (State.hostStep_line hirq hline)

theorem step_scriptWr {r : HostReg} {v : Word} (hline : s.host.lines[s.host.pc]? = some (scriptWr r v)) :
    step s = (s.hostTurn rest).writeReg r v :=
  (step_hostLine hsched hirq hline).trans (State.hostAccess_write _ r v)

theorem step_scriptRd {r : HostReg} (hline : s.host.lines[s.host.pc]? = some (scriptRd r)) :
    step s = .next ((s.hostTurn rest).hostRead r) :=
  (step_hostLine hsched hirq hline).trans (State.hostAccess_read _ r)

theorem step_ifGoto {c : HostCond} {line : Nat} (hline : s.host.lines[s.host.pc]? = some (.ifGoto c line)) :
    step s = .next (State.hostGoto { s with sched := rest }
      (if condHolds s.host.lastRead c then line else s.host.pc + 1)) :=
  step_hostLine hsched hirq hline

theorem step_store {r : HostReg} {v : Word} (hline : s.host.lines[s.host.pc]? = some (scriptWr r v)) (hr : r ≠ .cmd) :
    step s = .next ((s.hostTurn rest).store v r) :=
  (step_scriptWr hsched hirq hline).trans (State.writeReg_eq_store _ v hr)

theorem step_command {w : Word} {i : Instr} (hline : s.host.lines[s.host.pc]? = some (scriptWr .cmd w))
    (hdec : decode (.cmd w) = .ok i) : step s = exec i (s.hostTurn rest) := by
  rw [step_scriptWr hsched hirq hline, State.writeReg, State.writeCmd, hdec]

end

/-- Settles O41: the line is a script's write of CMD. -/
theorem hostStepRunsTheDecodedCommand : Obligations.HostStepRunsTheDecodedCommand :=
  fun s _ _ _ hsched hirq hline hdec => step_command hsched (s.irqPending_eq_false_iff.mpr hirq) hline hdec

/-! #### One turn of the test bench -/

/-- Whether an operation holds depends on neither the bench's port nor the schedule. -/
theorem State.held_ports (s : State) (codes : List Code) (sched : List Agent) (i : Instr) :
    State.held { s with bench := codes, sched := sched } i = s.held i := by
  cases i <;> rfl

theorem State.benchStep_decoded {s : State} {c : Code} {codes : List Code} {i : Instr} (hbench : s.bench = c :: codes)
    (hdec : decode c = .ok i) : s.benchStep = if s.held i then exec i s else exec i { s with bench := codes } := by
  simp [State.benchStep, hbench, hdec]

/-- Settles O42: the turn given out changes neither the port nor whether the operation holds. -/
theorem benchStepRunsTheDecodedOperation : Obligations.BenchStepRunsTheDecodedOperation := by
  intro s rest c codes i hsched hbench hdec
  have hheld : State.held { s with sched := rest } i = s.held i := s.held_ports s.bench rest i
  have hstep : step s = if s.held i then exec i { s with sched := rest }
      else exec i { s with sched := rest, bench := codes } := by
    rw [step_cons s .bench rest hsched, ← hheld]
    exact State.benchStep_decoded hbench hdec
  exact ⟨fun h => by rw [hstep, h]; rfl, fun h => by rw [hstep, h]; rfl⟩

/-! #### The word withFetchWord stores (log 16) -/

theorem decodeTableWord_some {nbits w : Nat} {i : Instr} (h : decodeTableWord nbits w = some i) :
    ∃ c, codeOfTableWord nbits w = some c ∧ decode c = .ok i := by
  unfold decodeTableWord at h
  split at h
  · cases h
  · next c hc =>
    split at h
    · next j hj => cases h; exact ⟨c, hc, hj⟩
    · cases h

theorem State.withFetchWord_some (s : State) {nbits w : Nat} {c : Code} (h : codeOfTableWord nbits w = some c) :
    s.withFetchWord nbits w = s.withCode c := by
  simp [State.withFetchWord, h]

theorem State.withCode_bench (s : State) {c : Code} (h : ∀ v, c ≠ .cmd v) : s.withCode c = s.withBench c := by
  cases c with
  | cmd v => exact absurd rfl (h v)
  | _ => rfl

/-- No interrupt makes the host wait for a CMD word that was fetched. -/
theorem State.withCmd_irqPending (s : State) (w : Word) : (s.withCmd w).irqPending = false := by
  rw [State.irqPending_eq_false_iff]
  cases h : s.irqPending with
  | true => simp [State.withCmd, h]
  | false => simpa [State.withCmd, h] using s.irqPending_eq_false_iff.mp h

/-- Settles O44: a CMD word is the host's only line, any other the first code at the bench's port. -/
theorem fetchedWordRunsNext : Obligations.FetchedWordRunsNext := by
  intro s nbits w i hword
  obtain ⟨c, hcode, hdec⟩ := decodeTableWord_some hword
  rw [s.withFetchWord_some hcode]
  rcases codeOfTableWord_space nbits w c hcode with ⟨hspace, v, rfl⟩ | ⟨hspace, hc⟩
  · refine ⟨(s.withCmd v).hostTurn s.sched, step_command rfl (s.withCmd_irqPending v) rfl hdec, rfl,
      fun _ => ⟨rfl, rfl⟩, fun h => by omega⟩
  · rw [s.withCode_bench hc]
    have hheld : (s.withBench c).held i = s.held i := s.held_ports _ _ i
    obtain ⟨hrun, hhold⟩ := benchStepRunsTheDecodedOperation (s.withBench c) s.sched c s.bench i rfl rfl hdec
    rw [hheld] at hrun hhold
    cases h : s.held i with
    | false => exact ⟨s, hrun h, rfl, fun _ => by omega, fun _ => ⟨rfl, rfl, fun _ => rfl⟩⟩
    | true => exact ⟨_, hhold h, rfl, fun _ => by omega, fun _ => ⟨rfl, rfl, nofun⟩⟩

end Sys2Proof.Machine

/-! ### The host's script: WAIT_IDLE, FLASH_WAIT and DRAW (30_encoding.md R87 to R91)
-/

namespace Sys2Proof.Machine

theorem core_run_succ {s t : State} (h : step s = .next t) (k : Nat) :
    Host.Core.run Sys2Proof.core (k + 1) s = Host.Core.run Sys2Proof.core k t := by
  have hcore : Sys2Proof.core.step s = .next t := h
  simp only [Host.Core.run, hcore]

/-- Line k of a mnemonic's lines, standing in a longer script. -/
theorem script_line {before script after : List HostLine} {k : Nat} (hk : k < script.length) :
    (before ++ script ++ after)[before.length + k]? = script[k]? := by
  rw [List.append_assoc, List.getElem?_append_right (Nat.le_add_right ..), Nat.add_sub_cancel_left,
    List.getElem?_append_left hk]

/-- A read of STATUS and a branch on it, the two lines WAIT_IDLE and FLASH_WAIT share (30_encoding.md R90, R91). -/
theorem run_statusBranch {s : State} {rest : List Agent} {c : HostCond} {line : Nat} (hirq : s.irqPending = false)
    (hread : s.host.lines[s.host.pc]? = some (scriptRd .status))
    (hbranch : s.host.lines[s.host.pc + 1]? = some (.ifGoto c line)) (hsched : s.sched = .host :: .host :: rest) :
    ∃ t, Host.Core.run Sys2Proof.core 2 s = .next t ∧
      t.host.pc = (if condHolds s.status c then line else s.host.pc + 2) ∧
      t = { s with host := t.host, sched := rest, outcome := .okValue s.status } := by
  have hfirst := step_scriptRd hsched hirq hread
  have hsecond := step_ifGoto (s := (s.hostTurn (.host :: rest)).hostRead .status) rfl hirq hbranch
  exact ⟨_, (core_run_succ hfirst 1).trans (core_run_succ hsecond 0), rfl, rfl⟩

/-- Settles O59: the branch tests the bit of STATUS that is B. -/
theorem waitIdleLoopsWhileBusy : Obligations.WaitIdleLoopsWhileBusy := by
  intro s before after rest hirq hlines hpc hsched
  have hat {k : Nat} (hk : k < 2) : s.host.lines[s.host.pc + k]? = (scriptWaitIdle before.length)[k]? := by
    rw [hlines, hpc]
    exact script_line hk
  obtain ⟨t, hrun, ht, hframe⟩ := run_statusBranch hirq (hat (k := 0) (by omega)) (hat (k := 1) (by omega)) hsched
  refine ⟨t, hrun, ?_, hframe⟩
  rw [ht, hpc, condHolds, s.status_busy]

/-- What FLASH leaves while B = 1 (44_dma_streaming_engine.md R212). -/
def State.flashRejected (s : State) : State := { s with result := .busyError, outcome := .busyError }

theorem decode_flash : decode (.cmd 0x00000004#32) = .ok .flash := by decide

theorem execFlash_busy {s : State} (hinit : s.initDone = true) (hbusy : s.busy = true) :
    execFlash s = .next s.flashRejected := by
  simp [execFlash, State.flashRejected, hinit, hbusy]

/-- FLASH_WAIT's branch is taken on the STATUS of a rejected FLASH (30_encoding.md R75, R87). -/
theorem condHolds_busyError {s : State} (h : s.result = .busyError) : condHolds s.status (.resultIs .busyError) = true :=
  decide_eq_true (s.status_result.trans (congrArg resultCode h))

/-- Settles O60: the rejected FLASH writes the RESULT that the branch then finds in STATUS. -/
theorem flashWaitRetriesWhileBusy : Obligations.FlashWaitRetriesWhileBusy := by
  intro s before after rest hinit hbusy hirq hlines hpc hsched
  have hat {k : Nat} (hk : k < 3) : s.host.lines[s.host.pc + k]? = (scriptFlashWait before.length)[k]? := by
    rw [hlines, hpc]
    exact script_line hk
  have hflash := (step_command hsched hirq (hat (k := 0) (by omega)) decode_flash).trans
    (execFlash_busy hinit hbusy)
  obtain ⟨t, hrun, ht, hframe⟩ := run_statusBranch (s := (s.hostTurn (.host :: .host :: rest)).flashRejected) hirq
    (hat (k := 1) (by omega)) (hat (k := 2) (by omega)) rfl
  refine ⟨t, (core_run_succ hflash 2).trans hrun, ht.trans (if_pos (condHolds_busyError rfl)), ?_⟩
  have houtcome := congrArg State.outcome hframe
  rw [houtcome]
  exact hframe

/-! #### Operand registers stored one after another -/

/-- A turn of the host in which it stores into a register. -/
def State.storeTurn (s : State) (write : HostReg × Word) : State :=
  (s.hostTurn s.sched.tail).store write.2 write.1

theorem State.store_host (s : State) (v : Word) (r : HostReg) : (s.store v r).host = s.host := by
  cases r <;> rfl

theorem State.store_sched (s : State) (v : Word) (r : HostReg) : (s.store v r).sched = s.sched := by
  cases r <;> rfl

theorem State.store_irqPending (s : State) (v : Word) (r : HostReg) : (s.store v r).irqPending = s.irqPending := by
  cases r <;> rfl

/-- A script whose next lines are known has the first of them at the host's line. -/
theorem line_of_drop {lines more : List HostLine} {line : HostLine} {pc : Nat} (h : lines.drop pc = line :: more) :
    lines[pc]? = some line := by
  rw [← List.head?_drop, h, List.head?_cons]

/-- A script's stores, each taken in a turn of the host, and what is next then. -/
theorem run_stores {writes : List (HostReg × Word)} {more : List HostLine} {rest : List Agent}
    (hreg : ∀ write ∈ writes, write.1 ≠ .cmd) (k : Nat) {s : State} (hirq : s.irqPending = false)
    (hlines : s.host.lines.drop s.host.pc = writes.map (fun write => scriptWr write.1 write.2) ++ more)
    (hsched : s.sched = List.replicate writes.length .host ++ rest) :
    Host.Core.run Sys2Proof.core (writes.length + k) s =
      Host.Core.run Sys2Proof.core k (writes.foldl State.storeTurn s) ∧
    (writes.foldl State.storeTurn s).irqPending = false ∧
    (writes.foldl State.storeTurn s).host.lines.drop (writes.foldl State.storeTurn s).host.pc = more ∧
    (writes.foldl State.storeTurn s).sched = rest := by
  induction writes generalizing s with
  | nil =>
    rw [List.length_nil, Nat.zero_add]
    exact ⟨rfl, hirq, hlines, hsched⟩
  | cons write writes ih =>
    have hstep : step s = .next (s.storeTurn write) := by
      rw [State.storeTurn, hsched]
      exact step_store hsched hirq (line_of_drop hlines) (hreg write List.mem_cons_self)
    have hmore : (s.storeTurn write).host.lines.drop (s.storeTurn write).host.pc =
        writes.map (fun write => scriptWr write.1 write.2) ++ more := by
      rw [State.storeTurn, State.store_host]
      exact List.tail_drop.symm.trans (congrArg List.tail hlines)
    obtain ⟨hrun, hnext⟩ := ih (s := s.storeTurn write) (fun _ hmem => hreg _ (List.mem_cons_of_mem _ hmem))
      ((State.store_irqPending ..).trans hirq) hmore ((State.store_sched ..).trans (congrArg List.tail hsched))
    rw [List.length_cons, Nat.add_right_comm]
    exact ⟨(core_run_succ hstep _).trans hrun, hnext⟩

/-! #### DRAW's operands -/

theorem decode_cmdWord_draw (n : BitVec 4) (h : n ≤ 8#4) : decode (.cmd (cmdWord n 0x3#4)) = .ok (.draw n) := by
  revert n
  decide

theorem execDraw_ready {n : BitVec 4} {s : State} (hn : n ≤ 8#4) (hinit : s.initDone = true) : execDraw n s =
    .next (s.setFb (drawRows s.drawX s.drawY s.drawWidth (s.bitmap n.toNat) s.fb)).commandOk := by
  rw [execDraw, if_neg (BitVec.not_lt.mpr hn), if_pos hinit]

/-- Byte i of a packed register (30_encoding.md R74). -/
theorem packBytes_byte (bm : List Byte) {i : Nat} (hi : i < 4) :
    (packBytes bm).extractLsb' (24 - 8 * i) 8 = bm.getD i 0#8 := by
  unfold packBytes
  have hcases : i = 0 ∨ i = 1 ∨ i = 2 ∨ i = 3 := by omega
  rcases hcases with rfl | rfl | rfl | rfl
  all_goals
    simp (disch := omega) only [BitVec.extractLsb'_append_eq_of_add_le, BitVec.extractLsb'_append_eq_of_le]
    exact BitVec.extractLsb'_eq_self

/-- DRAW's bitmap, read back from the registers the assembler packs it into (30_encoding.md R74, R89). -/
theorem bitmapByte_packBytes (bm : List Byte) {i : Nat} (hi : i < 8) :
    bitmapByte (packBytes bm) (packBytes (bm.drop 4)) i = bm.getD i 0#8 := by
  unfold bitmapByte
  split
  · next hlow => exact packBytes_byte bm hlow
  · next hhigh =>
    rw [packBytes_byte _ (by omega), List.getD_eq_getElem?_getD, List.getElem?_drop, Nat.add_sub_cancel' (by omega),
      List.getD_eq_getElem?_getD]

theorem map_bitmapByte_packBytes (bm : List Byte) (hlen : bm.length ≤ 8) :
    (List.range bm.length).map (bitmapByte (packBytes bm) (packBytes (bm.drop 4))) = bm := by
  apply List.ext_getElem
  · simp
  · intro i _ hi
    rw [List.getElem_map, List.getElem_range, bitmapByte_packBytes bm (by omega), List.getD_eq_getElem _ _ hi]

/-- The five stores of the assembler's DRAW (30_encoding.md R89). -/
def drawStores (x : Int) (y w : Nat) (bm : List Byte) : List (HostReg × Word) :=
  [(.x, BitVec.ofInt 32 x), (.y, BitVec.ofNat 32 y), (.w, BitVec.ofNat 32 w), (.bm0, packBytes bm),
    (.bm1, packBytes (bm.drop 4))]

/-- Where DRAW's five stores put its operands, and that they leave the rest of the block. -/
theorem foldl_drawStores (s : State) (x : Int) (y w : Nat) (bm : List Byte) :
    ∃ host sched, (drawStores x y w bm).foldl State.storeTurn s = { s with
      regX := BitVec.ofInt 32 x
      regY := BitVec.ofNat 32 y
      regW := BitVec.ofNat 32 w
      regBm0 := packBytes bm
      regBm1 := packBytes (bm.drop 4)
      outcome := .ok
      host := host
      sched := sched } := by
  simp [drawStores, State.storeTurn, State.hostTurn, State.store]

/-- What the assembler accepts and what it gives (30_encoding.md R89). -/
theorem scriptDraw_some {x : Int} {y w : Nat} {bm : List Nat} {lines : List HostLine}
    (h : scriptDraw x y w bm = some lines) :
    bm.length ≤ 8 ∧ -2 ^ 31 ≤ x ∧ x ≤ 2 ^ 31 - 1 ∧ y ≤ 2 ^ 32 - 1 ∧ w ≤ 2 ^ 32 - 1 ∧
    lines = (drawStores x y w (bm.map (BitVec.ofNat 8))).map (fun write => scriptWr write.1 write.2) ++
      [scriptWr .cmd (cmdWord (BitVec.ofNat 4 bm.length) 0x3#4)] := by
  unfold scriptDraw at h
  split at h
  · next hrange =>
    obtain ⟨hlen, -, hxlo, hxhi, hy, hw⟩ := hrange
    cases h
    exact ⟨hlen, hxlo, hxhi, hy, hw, rfl⟩
  · cases h

/-- Settles O58: five stores put the operands in their registers, and the sixth write draws them. -/
theorem drawScriptDrawsItsOperands : Obligations.DrawScriptDrawsItsOperands := by
  intro s x y w bm lines rest hscript hinit hirq hlines hpc hsched
  obtain ⟨hlen, hxlo, hxhi, hy, hw, rfl⟩ := scriptDraw_some hscript
  have hn : (BitVec.ofNat 4 bm.length).toNat = bm.length := Nat.mod_eq_of_lt (by omega)
  have hn8 : BitVec.ofNat 4 bm.length ≤ 8#4 := by rw [BitVec.le_def, hn]; exact hlen
  obtain ⟨hstores, hirq', hlines', hsched'⟩ := run_stores (writes := drawStores x y w (bm.map (BitVec.ofNat 8)))
    (rest := .host :: rest) (by simp [drawStores]) 1 hirq (by rw [hlines, hpc]; rfl) hsched
  obtain ⟨host, sched, hstored⟩ := foldl_drawStores s x y w (bm.map (BitVec.ofNat 8))
  rw [hstored] at hirq' hlines' hsched'
  have hdraw := (step_command hsched' hirq' (line_of_drop hlines') (decode_cmdWord_draw _ hn8)).trans
    (execDraw_ready hn8 hinit)
  refine ⟨_, (hstores.trans (congrArg (Host.Core.run Sys2Proof.core 1) hstored)).trans (core_run_succ hdraw 0),
    rfl, rfl, rfl, ?_⟩
  show drawRows (BitVec.ofInt 32 x).toInt (BitVec.ofNat 32 y).toNat (BitVec.ofNat 32 w).toNat
    ((List.range (BitVec.ofNat 4 bm.length).toNat).map (bitmapByte (packBytes (bm.map (BitVec.ofNat 8)))
      (packBytes ((bm.map (BitVec.ofNat 8)).drop 4)))) s.fb = _
  have hbitmap := map_bitmapByte_packBytes (bm.map (BitVec.ofNat 8)) (by simpa using hlen)
  rw [List.length_map] at hbitmap
  rw [hn, hbitmap, BitVec.toInt_ofInt_eq_self (by omega) hxlo (by omega), BitVec.toNat_ofNat, BitVec.toNat_ofNat,
    Nat.mod_eq_of_lt (by omega), Nat.mod_eq_of_lt (by omega)]

end Sys2Proof.Machine

/-! ### The framebuffer's accesses (40_framebuffer_memory.md R101, R102), and who leaves it alone (R104)
-/

namespace Sys2Proof.Machine

/-! #### FB_READ and FB_WRITE -/

theorem execFbRead_inside (s : State) {r : Byte} (h : r.toNat < 8) :
    execFbRead r s = .next (s.returns (.okValue s.fb[r.toNat])) := by
  simp only [execFbRead, s.fbRow_some _ h]

theorem execFbRead_outside (s : State) {r : Byte} (h : 8 ≤ r.toNat) : execFbRead r s = .next (s.fault .fbIndex) := by
  simp only [execFbRead, s.fbRow_none _ h]

theorem execFbWrite_inside (s : State) {r : Byte} (v : Word) (h : r.toNat < 8) :
    execFbWrite r v s = .next ((s.setFb (s.fb.set r.toNat v)).returns .ok) := by
  simp only [execFbWrite, s.fbSetRow_some _ v h]

theorem execFbWrite_outside (s : State) {r : Byte} (v : Word) (h : 8 ≤ r.toNat) :
    execFbWrite r v s = .next (s.fault .fbIndex) := by
  simp only [execFbWrite, s.fbSetRow_none _ v h]

/-- Settles O17: an index inside the framebuffer returns its row, and any other marks the fault. -/
theorem fbReadReturnsTheRow : Obligations.FbReadReturnsTheRow := fun s _ =>
  ⟨execFbRead_inside s, execFbRead_outside s⟩

/-- Settles O18: an index inside the framebuffer sets that row of the vector, and any other marks the fault. -/
theorem fbWriteWritesOneRow : Obligations.FbWriteWritesOneRow := by
  intro s r v
  refine ⟨fun hr => ⟨_, execFbWrite_inside s v hr, rfl, fun q hq => ?_⟩, execFbWrite_outside s v⟩
  exact (Vector.getElem_set hr hq).trans (if_congr eq_comm rfl rfl)

/-! #### The frame of the interrupt, the transfer unit and the shifter -/

/-- The two states agree but for what the engine continuation and the environment write (00_scope.md R17): the queue's
cursor, B, E, TU, SH, CS, the trace, the fault mark, and the model's `outcome`. -/
def State.SameHostSide (s t : State) : Prop :=
  t = { s with
    queue := { s.queue with cursor := t.queue.cursor }
    busy := t.busy, engine := t.engine, tu := t.tu, shifter := t.shifter, cs := t.cs, trace := t.trace,
    faults := t.faults, outcome := t.outcome }

theorem execEngIrq_sameHostSide {s t : State} (h : execEngIrq s = .next t) : s.SameHostSide t := by
  rcases execEngIrq_cases s t h with rfl | ⟨-, -, rfl⟩ | ⟨-, -, -, rfl⟩ | ⟨-, -, -, -, -, c, -, rfl⟩ |
    ⟨-, -, -, -, -, c, -, rfl⟩ | ⟨-, -, -, -, rfl⟩ <;> rfl

theorem State.tuMove_sameHostSide (s : State) : s.SameHostSide s.tuMove := by
  rcases s.tuMove_cases with ⟨-, e⟩ | ⟨-, -, e⟩ | ⟨-, half, -, e⟩ <;> rw [e] <;> rfl

theorem State.tuFail_sameHostSide (s : State) : s.SameHostSide s.tuFail := by
  rcases s.tuFail_cases with e | ⟨-, -, e⟩ <;> rw [e] <;> rfl

theorem State.tuOther_sameHostSide (s : State) : s.SameHostSide s.tuOther := by
  rcases s.tuOther_cases with e | ⟨-, -, e⟩ <;> rw [e] <;> rfl

theorem State.shShift_sameHostSide (s : State) : s.SameHostSide s.shShift := by
  rcases s.shShift_cases with ⟨-, e⟩ | ⟨half, rest, -, e⟩ <;> rw [e] <;> rfl

/-- Whoever steps but the host and the test bench, the host's side of the state stays. -/
theorem State.agentStep_sameHostSide {s t : State} {a : Agent} (hhost : a ≠ .host) (hbench : a ≠ .bench)
    (h : s.agentStep a = .next t) : s.SameHostSide t := by
  cases a with
  | host => exact absurd rfl hhost
  | bench => exact absurd rfl hbench
  | irq => exact execEngIrq_sameHostSide h
  | tuMove => exact next_inj h ▸ s.tuMove_sameHostSide
  | tuFail => exact next_inj h ▸ s.tuFail_sameHostSide
  | tuOther => exact next_inj h ▸ s.tuOther_sameHostSide
  | shShift => exact next_inj h ▸ s.shShift_sameHostSide

/-- Settles O50: the framebuffer, the operand registers, INIT_DONE, IE, RESULT, the host's thread and what is staged all
lie on the host's side, which no other agent of the block writes. -/
theorem onlyTheHostTouchesTheFramebuffer : Obligations.OnlyTheHostTouchesTheFramebuffer := by
  intro s t a hhost hbench h
  rw [State.agentStep_sameHostSide hhost hbench h]
  exact ⟨rfl, rfl, rfl, rfl, rfl, rfl, rfl, rfl, rfl, rfl, rfl, rfl⟩

end Sys2Proof.Machine

/-! ### CLEAR and DRAW (41_bit_compositor.md R121 to R132)
-/

namespace Sys2Proof.Machine

/-! #### The operations at a state after INIT -/

theorem execClear_ready {s : State} (hinit : s.initDone = true) :
    execClear s = .next (s.setFb (Vector.replicate 8 0#32)).commandOk := if_pos hinit

/-- Settles O13: CLEAR's two branches, on INIT_DONE (41_bit_compositor.md R121). -/
theorem clearZeroesEveryRow : Obligations.ClearZeroesEveryRow :=
  ⟨rfl, fun _ => ⟨execClear_ready, fun hinit => exec_hostCommand_notInit (op := 2) (len := 0) hinit nofun nofun⟩⟩

/-- The state DRAW of n bitmap bytes leaves (41_bit_compositor.md R129). -/
def State.drawn (s : State) (n : Nat) : State :=
  (s.setFb (drawRows s.drawX s.drawY s.drawWidth (s.bitmap n) s.fb)).commandOk

theorem exec_draw {n : BitVec 4} {s : State} (hn : n ≤ 8#4) (hinit : s.initDone = true) :
    exec (.draw n) s = .next (s.drawn n.toNat) := execDraw_ready hn hinit

/-- What DRAW of n bitmap bytes ORs into row r (41_bit_compositor.md R127 to R129). -/
def State.drawMask (s : State) (n r : Nat) : Word :=
  if s.regY.toNat ≤ r ∧ r - s.regY.toNat < n then
    drawnRow s.regX.toInt s.regW.toNat (bitmapByte s.regBm0 s.regBm1 (r - s.regY.toNat))
  else 0#32

theorem State.drawMask_of_lt (s : State) (n : Nat) {r : Nat} (h : r < s.regY.toNat) : s.drawMask n r = 0#32 :=
  if_neg fun hdrawn => Nat.not_le.mpr h hdrawn.1

/-- DRAW's row loop at one row (41_bit_compositor.md R127 to R129). -/
theorem State.drawn_row (s : State) (n : Nat) {r : Nat} (hr : r < 8) :
    (s.drawn n).fb[r] = s.fb[r] ||| s.drawMask n r := by
  show (drawRows s.regX.toInt s.regY.toNat s.regW.toNat (s.bitmap n) s.fb)[r] = _
  rw [drawRows, orRows_row _ _ _ _ hr, State.drawMask, State.bitmap]
  by_cases hy : s.regY.toNat ≤ r
  · by_cases hi : r - s.regY.toNat < n <;> simp [hy, hi]
  · simp [hy]

/-- The clamp of 41_bit_compositor.md R123. -/
theorem drawnRow_eq_eight (x : Int) (b : Byte) {width : Nat} (h : 8 ≤ width) :
    drawnRow x width b = drawnRow x 8 b := by
  rw [drawnRow, drawnRow, clampWidth, clampWidth, Nat.min_eq_right h, Nat.min_self]

/-- Settles O16: each row is ORed with a mask that the operands alone give, 0 above row y, and the same for every width
from 8 on. -/
theorem drawAndClearProperties : Obligations.DrawAndClearProperties := by
  intro s n m x y w b0 b1 hinit hn hm second
  refine ⟨fun hy => ?_, ?_, ?_, fun hw => ?_⟩
  · refine ⟨_, exec_draw hn hinit, Vector.ext fun r hr => ?_⟩
    rw [s.drawn_row _ hr, s.drawMask_of_lt _ (Nat.lt_of_lt_of_le hr hy), BitVec.or_zero]
  · refine ⟨_, _, _, exec_draw hn hinit, exec_draw hm hinit, exec_draw hm hinit, fun r hr => ?_⟩
    have hb : ((second s).drawn m.toNat).fb[r] = s.fb[r] ||| (second s).drawMask m.toNat r := State.drawn_row _ _ hr
    have hab : ((second (s.drawn n.toNat)).drawn m.toNat).fb[r] =
        (s.drawn n.toNat).fb[r] ||| (second s).drawMask m.toNat r := State.drawn_row _ _ hr
    rw [hab, hb, s.drawn_row _ hr]
    ac_rfl
  · exact ⟨_, _, _, execClear_ready hinit, exec_draw hn hinit, exec_draw hn hinit, rfl⟩
  · have hmask (r : Nat) : s.drawMask n.toNat r = State.drawMask { s with regW := 8#32 } n.toNat r := by
      rw [State.drawMask, drawnRow_eq_eight _ _ (Nat.le_of_lt hw)]
      rfl
    refine ⟨_, _, exec_draw hn hinit, exec_draw hn hinit, Vector.ext fun r hr => ?_⟩
    rw [State.drawn_row _ _ hr, State.drawn_row _ _ hr, hmask]

/-! #### One drawn row on numbers (R124 to R126) -/

/-- A bitmap byte is 8 bits of BM0 or BM1 (30_encoding.md R74). -/
theorem bitmapByte_toNat (bm0 bm1 : Word) (i : Nat) : (bitmapByte bm0 bm1 i).toNat =
    if i < 4 then bm0.toNat / 2 ^ (24 - 8 * i) % 256 else bm1.toNat / 2 ^ (24 - 8 * (i - 4)) % 256 := by
  rw [bitmapByte, apply_ite BitVec.toNat, BitVec.extractLsb'_toNat, BitVec.extractLsb'_toNat,
    Nat.shiftRight_eq_div_pow, Nat.shiftRight_eq_div_pow]

theorem maskByte_eq_mod (w : Nat) (b : Byte) : maskByte w b = BitVec.ofNat 32 (b.toNat % 2 ^ w) := by
  rw [← Nat.and_two_pow_sub_one_eq_mod, BitVec.ofNat_and, BitVec.ofNat_toNat]
  rfl

/-- Shifts by 32 or more need no case of their own. -/
theorem placeRow_eq (m : Word) (shift : Int) :
    placeRow m shift = if 0 ≤ shift then m <<< shift.toNat else m >>> (-shift).toNat := by
  unfold placeRow
  split
  · split
    · rfl
    · exact (BitVec.shiftLeft_eq_zero (by omega)).symm
  · split
    · rfl
    · exact (BitVec.ushiftRight_eq_zero (by omega)).symm

theorem placeRow_ofNat {m : Nat} (hm : m < 2 ^ 32) (shift : Int) : placeRow (BitVec.ofNat 32 m) shift =
    BitVec.ofNat 32 (if 0 ≤ shift then m * 2 ^ shift.toNat else m / 2 ^ (-shift).toNat) := by
  rw [placeRow_eq]
  apply BitVec.eq_of_toNat_eq
  split
  · rw [BitVec.toNat_shiftLeft, BitVec.toNat_ofNat, BitVec.toNat_ofNat, Nat.shiftLeft_eq, Nat.mod_mul_mod]
  · rw [BitVec.toNat_ushiftRight, BitVec.toNat_ofNat, BitVec.toNat_ofNat, Nat.mod_eq_of_lt hm,
      Nat.shiftRight_eq_div_pow, Nat.mod_eq_of_lt (Nat.lt_of_le_of_lt (Nat.div_le_self ..) hm)]

/-- Settles O14: the row's mask, with the masked byte and the place of its bits as numbers. -/
theorem drawOrsThePlacedBitmap : Obligations.DrawOrsThePlacedBitmap := by
  intro s n hinit hn
  refine ⟨_, exec_draw hn hinit, rfl, fun r hr => ?_⟩
  intro i w byte m shift p
  have hbyte : (bitmapByte s.regBm0 s.regBm1 i).toNat = byte := bitmapByte_toNat ..
  have hm : m < 2 ^ 32 := by
    have := Nat.mod_le byte (2 ^ w)
    have := (bitmapByte s.regBm0 s.regBm1 i).isLt
    omega
  have hrow : drawnRow s.regX.toInt s.regW.toNat (bitmapByte s.regBm0 s.regBm1 i) = BitVec.ofNat 32 p := by
    rw [drawnRow, maskByte_eq_mod, hbyte]
    exact placeRow_ofNat hm shift
  rw [s.drawn_row _ hr, State.drawMask, ← hrow]
  split
  · rfl
  · exact BitVec.or_zero

/-! #### One drawn row column by column (R130) -/

theorem maskByte_getLsbD (w : Nat) (b : Byte) (i : Nat) :
    (maskByte w b).getLsbD i = (decide (i < w) && b.getLsbD i) := by
  rw [maskByte, BitVec.getLsbD_and, BitVec.getLsbD_setWidth, BitVec.getLsbD_ofNat, Nat.testBit_two_pow_sub_one]
  by_cases hi : i < 32
  · simp [hi, Bool.and_comm]
  · simp [hi, b.getLsbD_of_ge i (by omega)]

/-- Bit j of a placed byte is its bit j − shift, for shifts to either side (41_bit_compositor.md R126). -/
theorem placeRow_getLsbD (m : Word) (shift : Int) {j : Nat} (hj : j < 32) :
    (placeRow m shift).getLsbD j = (decide (shift ≤ j) && m.getLsbD (j - shift).toNat) := by
  rw [placeRow_eq]
  split
  · next hleft =>
    have hlt : (!decide (j < shift.toNat)) = decide (shift ≤ j) := by
      rw [← decide_not, decide_eq_decide]
      omega
    have hsub : j - shift.toNat = (j - shift).toNat := by omega
    rw [BitVec.getLsbD_shiftLeft, hlt, hsub, decide_eq_true hj, Bool.true_and]
  · next hright =>
    have hadd : (-shift).toNat + j = (j - shift).toNat := by omega
    rw [BitVec.getLsbD_ushiftRight, hadd, decide_eq_true (by omega), Bool.true_and]

theorem drawnRow_getLsbD (x : Int) (width : Nat) (b : Byte) {c : Nat} (hc : c < 32) :
    (drawnRow x width b).getLsbD (31 - c) = (decide (0 ≤ c - x) && decide (c - x < min (width : Int) 8) &&
      b.getLsbD (min (width : Int) 8 - 1 - (c - x)).toNat) := by
  have hj : ((31 - c : Nat) : Int) - drawShift x (clampWidth width) = min (width : Int) 8 - 1 - (c - x) := by
    unfold drawShift clampWidth
    omega
  rw [drawnRow, placeRow_getLsbD _ _ (by omega), maskByte_getLsbD, hj, ← Bool.and_assoc]
  congr 1
  rw [← Bool.decide_and, ← Bool.decide_and, decide_eq_decide]
  unfold drawShift clampWidth
  omega

/-- Settles O15: the row's mask, read at one column. -/
theorem drawLightsTheBitmapsColumns : Obligations.DrawLightsTheBitmapsColumns := by
  intro s n hinit hn
  refine ⟨_, exec_draw hn hinit, fun r hr c hc => ?_⟩
  intro w column
  rw [s.drawn_row _ hr, BitVec.getLsbD_or, State.drawMask, ← Bool.decide_and, Bool.and_assoc, Bool.and_assoc]
  congr 1
  split
  · next hdrawn =>
    rw [drawnRow_getLsbD _ _ _ hc, decide_eq_true hdrawn, Bool.true_and, Bool.and_assoc]
  · next hdrawn => rw [decide_eq_false hdrawn, Bool.false_and, BitVec.getLsbD_zero]

end Sys2Proof.Machine

/-! ### SEQ_ROW's record (42_protocol_sequencer.md R150 to R152)
-/

namespace Sys2Proof.Machine

/-- The record as one word a chip: chip 0's byte is the most significant of the row (42_protocol_sequencer.md R151). -/
theorem seqRow_getElem (r : Nat) (v : Word) (j : Nat) (hj : j < 4) :
    (seqRow r v)[j] = commandWord (BitVec.ofNat 8 (r + 1)) (v.extractLsb' ((3 - j) * 8) 8) := by
  match j, hj with
  | 0, _ | 1, _ | 2, _ | 3, _ => rfl

/-- Digit register r + 1 fits the address byte (42_protocol_sequencer.md R152). -/
theorem seqRow_getElem_toNat {r : Nat} (hr : r < 8) (v : Word) (j : Nat) (hj : j < 4) :
    (seqRow r v)[j].toNat = (r + 1) * 256 + v.toNat / 2 ^ ((3 - j) * 8) % 256 := by
  have haddr : (BitVec.ofNat 8 (r + 1)).toNat = r + 1 := Nat.mod_eq_of_lt (by omega)
  rw [seqRow_getElem, commandWord_toNat, haddr, BitVec.extractLsb'_toNat, Nat.shiftRight_eq_div_pow]

/-- Settles O19: each word of the record as a number, at a row index of 3 bits. -/
theorem seqRowAddressesAndSplitsTheRow : Obligations.SeqRowAddressesAndSplitsTheRow := fun _ r v =>
  ⟨seqRow r.toNat v, rfl, seqRow_getElem_toNat r.isLt v⟩

end Sys2Proof.Machine

/-! ### The queue's operations (43_transfer_queue.md R181 to R184)
-/

namespace Sys2Proof.Machine

/-! #### Q_RESET and Q_STAGE: what the queue answers is what the operation returns -/

theorem execQReset_of_result {s : State} {q : QResult} (h : s.qReset = q) : execQReset s = .next (q.answer s) := by
  rw [execQReset, h]

theorem execQStage_of_result {s : State} {rec : Record} {q : QResult} (h : s.qStage rec = q) :
    execQStage rec s = .next (q.answer s) := by
  rw [execQStage, h]

/-- Settles O21: Q_RESET's two results, on TU.active (43_transfer_queue.md R181). -/
theorem qResetEmptiesTheQueue : Obligations.QResetEmptiesTheQueue := fun s =>
  ⟨fun hidle => execQReset_of_result (s.qReset_idle hidle),
    fun hactive => execQReset_of_result (s.qReset_active hactive)⟩

/-- Settles O22: staging a record sets the slot at the count in the vector of slots. -/
theorem qStageAppendsOneRecord : Obligations.QStageAppendsOneRecord := by
  intro s rec hidle hroom
  refine ⟨_, execQStage_of_result (s.qStage_room rec hidle hroom), rfl, rfl, rfl, fun k hk => ?_⟩
  exact (Vector.getElem_set hroom hk).trans (if_congr eq_comm rfl rfl)

/-- Settles O23: Q_STAGE's two errors; BusyError asks nothing of the count (43_transfer_queue.md R183). -/
theorem qStageErrorsChangeNothing : Obligations.QStageErrorsChangeNothing := fun s rec =>
  ⟨fun hactive => execQStage_of_result (s.qStage_active rec hactive),
    fun hidle hfull => execQStage_of_result (s.qStage_full rec hidle hfull)⟩

/-! #### Q_NEXT -/

theorem execQNext_of_some {s t : State} {k : Fin 8} {rec : Record} (h : s.qNext = some (k, rec, t)) :
    execQNext s = .next (t.returns (.okSlot k rec)) := by
  rw [execQNext, h]

theorem execQNext_of_none {s : State} (h : s.qNext = none) : execQNext s = .next (s.returns .okNone) := by
  rw [execQNext, h]

/-- Settles O24: Q_NEXT's two results, on the cursor and the count (43_transfer_queue.md R184). -/
theorem qNextYieldsInOrder : Obligations.QNextYieldsInOrder := fun s =>
  ⟨fun hleft => ⟨_, execQNext_of_some (s.qNext_some hleft), rfl, rfl⟩,
    fun hnone => execQNext_of_none (s.qNext_none hnone)⟩

end Sys2Proof.Machine

/-! ### The transfer unit's and the shifter's steps (44_dma_streaming_engine.md R242 to R246)
-/

namespace Sys2Proof.Machine

/-! #### MOVE -/

theorem State.tuMove_of_read {s : State} {half : Half} (hen : s.tuMoveEnabled = true)
    (hread : qMemRead s.params s.queue.slots (s.tu.src + 2 * s.tu.k) = some half) : s.tuMove = s.tuMoveHalf half := by
  simp only [State.tuMove, hen, if_true, hread]

theorem State.tuMove_disabled {s : State} (h : s.tuMoveEnabled = false) : s.tuMove = s := by
  simp [State.tuMove, h]

theorem State.tuMoveEnabled_eq_false_iff (s : State) : s.tuMoveEnabled = false ↔
    s.tu.active = false ∨ s.tu.n ≤ s.tu.k ∨ s.params.shifterDepth ≤ s.shifter.pending.length := by
  rw [Bool.eq_false_iff, Ne, s.tuMoveEnabled_iff, not_and_or, not_and_or, Bool.not_eq_true, Nat.not_lt, Nat.not_lt]

/-- What MOVE leaves of an active transfer of 4 halfwords. -/
theorem State.tuMoveHalf_record {s : State} (ha : s.tu.active = true) (hn : s.tu.n = 4) (half : Half) :
    s.tuMoveHalf half = { s with
      shifter := { s.shifter with pending := s.shifter.pending ++ [half] }
      tu := { s.tu with
        k := s.tu.k + 1
        active := decide (s.tu.k ≠ 3)
        tc := s.tu.tc || decide (s.tu.k = 3) } } := by
  simp [State.tuMoveHalf, ha, hn]

/-- Settles O35: MOVE reads halfword k at its address in the queue. -/
theorem moveHandsOverTheNextHalfword : Obligations.MoveHandsOverTheNextHalfword := by
  intro s
  refine ⟨fun slot hs hk hsrc hn ha hroom => ?_,
    fun hdis => State.tuMove_disabled (s.tuMoveEnabled_eq_false_iff.mpr hdis)⟩
  have hen : s.tuMoveEnabled = true := s.tuMoveEnabled_iff.mpr ⟨ha, hn ▸ hk, hroom⟩
  have hread : qMemRead s.params s.queue.slots (s.tu.src + 2 * s.tu.k) = some s.queue.slots[slot][s.tu.k] :=
    hsrc ▸ qMemRead_half s.params s.queue.slots slot s.tu.k hs hk
  rw [State.tuMove_of_read hen hread, State.tuMoveHalf_record ha hn]

/-! #### FAIL and OTHER -/

/-- Settles O38: FAIL's two branches, on TU_MAY_FAIL and TU.active. -/
theorem failStopsTheTransfer : Obligations.FailStopsTheTransfer := fun _ =>
  ⟨fun hmay ha => if_pos (Bool.and_eq_true_iff.mpr ⟨hmay, ha⟩),
    fun h => if_neg (Bool.eq_false_iff.mp (Bool.and_eq_false_iff.mpr h))⟩

/-- Settles O37: OTHER's two branches, on TU_OTHER_CAUSES and TU.active. -/
theorem otherCauseLeavesTheTransfer : Obligations.OtherCauseLeavesTheTransfer := fun _ =>
  ⟨fun hmay ha => if_pos (Bool.and_eq_true_iff.mpr ⟨hmay, ha⟩),
    fun h => if_neg (Bool.eq_false_iff.mp (Bool.and_eq_false_iff.mpr h))⟩

/-! #### SHIFT -/

theorem State.shShift_cons {s : State} {half : Half} {rest : List Half} (h : s.shifter.pending = half :: rest) :
    s.shShift = { s with
      shifter := { s.shifter with pending := rest }, trace := s.trace ++ [.word half] } := by
  simp only [State.shShift, h]
  rfl

theorem State.shShift_nil {s : State} (h : s.shifter.pending = []) : s.shShift = s := by
  simp only [State.shShift, h]

/-- Settles O39: SHIFT's two cases, on the shifter's pending words. -/
theorem shiftEmitsTheOldestWord : Obligations.ShiftEmitsTheOldestWord := fun _ =>
  ⟨fun _ _ => State.shShift_cons, State.shShift_nil⟩

/-- Settles O43: the turn given out is the interrupt's. -/
theorem interruptStepRunsThePass : Obligations.InterruptStepRunsThePass := fun s rest =>
  step_cons s .irq rest

end Sys2Proof.Machine

/-! ### The engine's operations: INIT, FLASH, ENG_START, ENG_IRQ and FINALIZE (44_dma_streaming_engine.md R211 to R229)
-/

namespace Sys2Proof.Machine

/-! #### INIT and FLASH -/

/-- A bring-up record on the bus (42_protocol_sequencer.md R156): one word for all 4 chips. -/
theorem recordEvents_replicate (h : Half) : recordEvents (Vector.replicate 4 h) =
    [.word h, .word h, .word h, .word h, .csDeassert, .csAssert] := rfl

theorem execInit_first {s : State} (hinit : s.initDone = false) : execInit s = .next { s with
    ie := true
    shifter := { s.shifter with enabled := true }
    cs := .asserted
    trace := s.trace ++ bringUpEvents s.params
    initDone := true
    result := .ok
    outcome := .ok } := by
  obtain ⟨t, ht⟩ := execInit_next s
  rcases execInit_cases s t ht with ⟨hdone, -⟩ | ⟨-, rfl⟩
  · exact absurd (hinit.symm.trans hdone) Bool.false_ne_true
  · exact ht

/-- Settles O11: INIT's two branches, with the five bring-up records as their bus events. -/
theorem initSendsTheBringUpSequence : Obligations.InitSendsTheBringUpSequence := by
  refine ⟨rfl, fun s => ⟨fun hinit => ?_, execInit_reinit⟩⟩
  have hevents (h : List BusEvent) : s.trace ++ BusEvent.csAssert :: h = s.trace ++ [.csAssert] ++ h := by simp
  refine (execInit_first hinit).trans ?_
  rw [bringUpEvents, hevents]
  rfl

/-- The state an accepted FLASH leaves (44_dma_streaming_engine.md R211). -/
def State.flashed (s : State) : State := { s with
  busy := true
  engine := .starting
  queue := { slots := Vector.ofFn fun r : Fin 8 => seqRow r.val s.fb[r.val], count := 8, cursor := 1 }
  tu := { s.tu with src := slotAddress s.params 0, n := 4, k := 0, active := true }
  cs := .asserted
  trace := s.trace ++ [.csAssert]
  result := .ok
  outcome := .ok }

theorem execFlash_of_done {s t : State} (hinit : s.initDone = true) (hbusy : s.busy = false)
    (h : s.flashAccept = .done t) : execFlash s = .next t.commandOk := by
  rw [execFlash, if_pos hinit, if_neg (Bool.eq_false_iff.mp hbusy), h]

theorem execFlash_of_faulted {s t : State} (hinit : s.initDone = true) (hbusy : s.busy = false)
    (h : s.flashAccept = .faulted t) : execFlash s = .next t := by
  rw [execFlash, if_pos hinit, if_neg (Bool.eq_false_iff.mp hbusy), h]

theorem execFlash_accepted {s : State} (hinit : s.initDone = true) (hbusy : s.busy = false)
    (hidle : s.tu.active = false) : execFlash s = .next s.flashed :=
  execFlash_of_done hinit hbusy (s.flashAccept_idle hidle)

/-- Settles O25: the accepted FLASH, with the slots' words as numbers. -/
theorem flashSnapshotsTheFrameAndStarts : Obligations.FlashSnapshotsTheFrameAndStarts := by
  intro s hinit hbusy hidle
  refine ⟨s.flashed, execFlash_accepted hinit hbusy hidle, rfl, fun r hr j hj => ?_⟩
  have hslot : s.flashed.queue.slots[r] = seqRow r s.fb[r] := Vector.getElem_ofFn hr
  rw [hslot, seqRow_getElem_toNat hr _ j hj]

/-- Settles O26: FLASH's first check after INIT. -/
theorem flashWhileBusyIsRejected : Obligations.FlashWhileBusyIsRejected := fun _ hinit hbusy =>
  ⟨execFlash_busy hinit hbusy, rfl⟩

/-! #### ENG_START and FINALIZE -/

theorem execEngStart_of_done {s t : State} (h : s.engineStart = .done t) : execEngStart s = .next (t.returns .ok) := by
  rw [execEngStart, h]

theorem execEngStart_of_faulted {s t : State} (h : s.engineStart = .faulted t) : execEngStart s = .next t := by
  rw [execEngStart, h]

/-- Settles O27: ENG_START's three ends. -/
theorem engStartArmsTheNextRecord : Obligations.EngStartArmsTheNextRecord := fun s =>
  ⟨fun hidle hleft => ⟨_, execEngStart_of_done (s.engineStart_ready hidle hleft), rfl, rfl⟩,
    fun hnone => execEngStart_of_faulted (s.engineStart_empty hnone),
    fun hactive hleft => ⟨_, execEngStart_of_faulted (s.engineStart_active hactive hleft), rfl, rfl⟩⟩

theorem State.serialIsBusy_iff (s : State) : s.serialIsBusy = true ↔ s.shifter.pending ≠ [] := by
  simp [State.serialIsBusy]

theorem State.serialIsBusy_eq_false_iff (s : State) : s.serialIsBusy = false ↔ s.shifter.pending = [] := by
  simp [State.serialIsBusy]

/-- Settles O34: FINALIZE's two branches, on the shifter. -/
theorem finalizeLatchesOnceTheShifterIsEmpty : Obligations.FinalizeLatchesOnceTheShifterIsEmpty := by
  refine fun s => ⟨fun hempty => ?_, fun hpending => if_pos (s.serialIsBusy_iff.mpr hpending)⟩
  refine (if_neg (Bool.eq_false_iff.mp (s.serialIsBusy_eq_false_iff.mpr hempty))).trans ?_
  rw [s.latch_eq]
  rfl

/-! #### ENG_IRQ -/

theorem State.irqEnabled_of_complete {s : State} (hie : s.ie = true) (hc : s.tu.tc = true)
    (hempty : s.shifter.pending = []) : s.irqEnabled = true := by
  simp [s.irqEnabled_eq, hie, hc, hempty]

theorem execEngIrq_disabled {s : State} (h : s.irqEnabled = false) : execEngIrq s = .next s := by
  simp [execEngIrq, h]

theorem execEngIrq_of_done {s t : State} (hen : s.irqEnabled = true) (h : s.takeInterrupt = .done t) :
    execEngIrq s = .next t.returnFromInterrupt := by
  simp only [execEngIrq, hen, if_true, h]

theorem execEngIrq_of_faulted {s t : State} (hen : s.irqEnabled = true) (h : s.takeInterrupt = .faulted t) :
    execEngIrq s = .next t := by
  simp only [execEngIrq, hen, if_true, h]

theorem State.takeInterrupt_other {s : State} (hc : s.tu.tc = false) :
    s.takeInterrupt = .done s.transferClearInterrupt := by
  simp [State.takeInterrupt, State.transferIsComplete, hc]

theorem State.takeInterrupt_spurious {s : State} (hc : s.tu.tc = true) (he : s.engine = .idle) :
    s.takeInterrupt = .faulted (s.transferClearInterrupt.fault .spuriousCompletion) := by
  simp [State.takeInterrupt, State.transferIsComplete, hc, he]

theorem State.takeInterrupt_stream {s : State} (hc : s.tu.tc = true) (he : s.engine ≠ .idle) :
    s.takeInterrupt = s.transferClearInterrupt.continueStream := by
  simp [State.takeInterrupt, State.transferIsComplete, hc, he]

/-- Settles O33: each of the three causes leaves ENG_IRQ not enabled. -/
theorem interruptWaitsUntilEnabled : Obligations.InterruptWaitsUntilEnabled := by
  intro s hwait
  apply execEngIrq_disabled
  rcases hwait with hie | ⟨hc, ho⟩ | ⟨hc, hpending⟩
  · simp [s.irqEnabled_eq, hie]
  · simp [s.irqEnabled_eq, hc, ho]
  · simp [s.irqEnabled_eq, hc, hpending]

/-- Settles O30: a pass without completion ends once the flags are cleared. -/
theorem otherCausesAreOnlyAcknowledged : Obligations.OtherCausesAreOnlyAcknowledged := by
  intro s hie hc ho
  have hen : s.irqEnabled = true := by simp [s.irqEnabled_eq, hie, hc, ho]
  exact execEngIrq_of_done hen (State.takeInterrupt_other hc)

/-- Settles O31: a completion with E Idle. -/
theorem spuriousCompletionIsMarked : Obligations.SpuriousCompletionIsMarked := fun _ hie hc hempty he =>
  execEngIrq_of_faulted (State.irqEnabled_of_complete hie hc hempty) (State.takeInterrupt_spurious hc he)

/-- The state a completion pass leaves once it has started the next record, with the cursor now at c
(44_dma_streaming_engine.md R222). -/
def State.nextRecordStarted (s : State) (c : Fin 9) : State := { s with
  engine := .streaming
  queue := { s.queue with cursor := c }
  tu := { src := slotAddress s.params s.queue.cursor.val, n := 4, k := 0, active := true, tc := false, other := false }
  shifter := { s.shifter with enabled := true }
  cs := .asserted
  trace := s.trace ++ [.csDeassert, .csAssert]
  outcome := .ok }

/-- The state the last completion pass leaves (44_dma_streaming_engine.md R222, R224). -/
def State.streamEnded (s : State) : State := { s with
  busy := false
  engine := .idle
  tu := { s.tu with tc := false, other := false }
  shifter := { s.shifter with enabled := true }
  cs := .asserted
  trace := s.trace ++ [.csDeassert, .csAssert] ++ extraLatch s.params
  outcome := .ok }

section

variable {s : State} (hie : s.ie = true) (hc : s.tu.tc = true) (hempty : s.shifter.pending = []) (he : s.engine ≠ .idle)

include hie hc hempty he

theorem execEngIrq_next (hidle : s.tu.active = false) (hleft : s.queue.cursor.val < s.queue.count.val) :
    execEngIrq s = .next (s.nextRecordStarted ⟨s.queue.cursor.val + 1, by omega⟩) :=
  execEngIrq_of_done (State.irqEnabled_of_complete hie hc hempty)
    ((State.takeInterrupt_stream hc he).trans (s.transferClearInterrupt.continueStream_more hidle hleft))

theorem execEngIrq_last (hnone : s.queue.count.val ≤ s.queue.cursor.val) : execEngIrq s = .next s.streamEnded := by
  rw [execEngIrq_of_done (State.irqEnabled_of_complete hie hc hempty)
    ((State.takeInterrupt_stream hc he).trans (s.transferClearInterrupt.continueStream_last hnone))]
  simp only [State.endStream_eq, State.latch_eq]
  cases hx : s.params.extraFinalLatch <;>
    simp [State.streamEnded, extraLatch, State.returnFromInterrupt, State.transferClearInterrupt, State.returns, hx]

end

/-- Settles O28: the pass that finds a record left. -/
theorem completionPassStartsTheNextRecord : Obligations.CompletionPassStartsTheNextRecord :=
  fun _ hie hc hempty he hidle hleft => ⟨_, execEngIrq_next hie hc hempty he hidle hleft, rfl, rfl⟩

/-- Settles O29: the pass that finds none, whose latches are the record's own and the extra one. -/
theorem lastCompletionPassEndsTheStream : Obligations.LastCompletionPassEndsTheStream := by
  intro s hie hc hempty he hnone
  have hlatches : s.trace ++ [.csDeassert, .csAssert] ++ extraLatch s.params = s.trace ++
      (if s.params.extraFinalLatch then [.csDeassert, .csAssert, .csDeassert, .csAssert]
        else [.csDeassert, .csAssert]) := by
    unfold extraLatch
    split <;> simp
  rw [← hlatches]
  exact execEngIrq_last hie hc hempty he hnone

/-- Settles O32: FLASH's Q_RESET answers BusyError, and the completion pass arms an active transfer unit. -/
theorem faultsOfAnActiveUnitAreMarked : Obligations.FaultsOfAnActiveUnitAreMarked := fun s hactive =>
  ⟨fun hinit hbusy => execFlash_of_faulted hinit hbusy (s.flashAccept_active hactive),
    fun hie hc hempty he hleft => ⟨_, execEngIrq_of_faulted (State.irqEnabled_of_complete hie hc hempty)
      ((State.takeInterrupt_stream hc he).trans (s.transferClearInterrupt.continueStream_active hactive hleft)),
      rfl, rfl⟩⟩

end Sys2Proof.Machine

/-! ### A stream in flight (44_dma_streaming_engine.md R210, R225, R226, R251; 20_memory.md R62, R68)
-/

namespace Sys2Proof.Machine

/-! #### Who moves E and B -/

theorem State.hostStep_engine {s t : State} (hs : s.Inv) (h : s.hostStep = .next t) :
    (t.engine = s.engine ∧ t.busy = s.busy) ∨
    (s.engine = .idle ∧ t.engine = .starting ∧ s.busy = false ∧ t.busy = true) := by
  rcases State.hostStep_block h with hb | ⟨u, hu, hInit | hFlash⟩
  · rw [hb]; exact .inl ⟨rfl, rfl⟩
  · rcases execInit_cases u t hInit with ⟨-, rfl⟩ | ⟨-, rfl⟩ <;> rw [hu] <;> exact .inl ⟨rfl, rfl⟩
  · have hui := hs.of_sameBlock hu
    rcases execFlash_cases u t hFlash with ⟨-, -, rfl⟩ | ⟨-, hbusy, -, rfl⟩ | ⟨-, hbusy, ha, -⟩ | ⟨-, rfl⟩
    · rw [hu]; exact .inl ⟨rfl, rfl⟩
    · have hidle := hui.idle_of_not_busy hbusy
      rw [hu] at hidle hbusy
      exact .inr ⟨hidle, rfl, hbusy, rfl⟩
    · exact absurd (hui.idle_of_not_busy hbusy) (hui.stream_of_active ha)
    · rw [hu]; exact .inl ⟨rfl, rfl⟩

theorem execEngIrq_engine {s t : State} (hs : s.Inv) (h : execEngIrq s = .next t) :
    (t.engine = s.engine ∧ t.busy = s.busy) ∨
    (s.engine = .starting ∧ t.engine = .streaming ∧ s.busy = true ∧ t.busy = true) ∨
    (s.engine ≠ .idle ∧ t.engine = .idle ∧ s.busy = true ∧ t.busy = false ∧ s.queue.count ≤ s.queue.cursor) := by
  rcases execEngIrq_cases s t h with rfl | ⟨-, -, rfl⟩ | ⟨-, hc, he, -⟩ | ⟨-, -, he, -, -, c, -, rfl⟩ |
    ⟨-, hc, he, ha, -⟩ | ⟨-, -, he, hnone, rfl⟩
  · exact .inl ⟨rfl, rfl⟩
  · exact .inl ⟨rfl, rfl⟩
  · exact absurd he (hs.stream_of_complete hc)
  · have hbusy := hs.busyEngine.mpr he
    cases hE : s.engine with
    | idle => exact absurd hE he
    | starting => exact .inr (.inl ⟨rfl, rfl, hbusy, hbusy⟩)
    | streaming => exact .inl ⟨rfl, rfl⟩
  · have hidle := (hs.inStream he).idle_of_complete hc
    exact absurd (hidle.symm.trans ha) Bool.false_ne_true
  · exact .inr (.inr ⟨he, rfl, hs.busyEngine.mpr he, rfl, hnone⟩)

/-- Settles O52: the host's FLASH raises B, a completion pass moves E on or back to Idle, and nobody else touches
them. -/
theorem engineMovesOnlyAsTheTableSays : Obligations.EngineMovesOnlyAsTheTableSays := by
  intro s t hs h
  have hu := hs.of_sameBlock s.turnTaken_sameBlock
  rw [← s.turnTaken_engine, ← s.turnTaken_busy, ← s.turnTaken_queue]
  rw [step] at h
  generalize s.turnTaken = u at hu h ⊢
  cases hagent : s.nextAgent <;> rw [hagent] at h
  case host => exact (State.hostStep_engine hu h).imp_right fun hflash => .inl ⟨rfl, hflash⟩
  case irq =>
    exact (execEngIrq_engine hu h).imp_right fun hpass =>
      .inr (hpass.imp (fun hon => ⟨rfl, hon⟩) fun hend => ⟨rfl, hend⟩)
  case bench =>
    simp only [State.agentStep, State.benchStep, hu.benchEmpty] at h
    cases h; exact .inl ⟨rfl, rfl⟩
  case tuMove =>
    cases h
    rcases u.tuMove_cases with ⟨-, e⟩ | ⟨-, -, e⟩ | ⟨-, half, -, e⟩ <;> rw [e] <;> exact .inl ⟨rfl, rfl⟩
  case tuFail =>
    cases h
    rcases u.tuFail_cases with e | ⟨-, -, e⟩ <;> rw [e] <;> exact .inl ⟨rfl, rfl⟩
  case tuOther =>
    cases h
    rcases u.tuOther_cases with e | ⟨-, -, e⟩ <;> rw [e] <;> exact .inl ⟨rfl, rfl⟩
  case shShift =>
    cases h
    rcases u.shShift_cases with ⟨-, e⟩ | ⟨half, rest, -, e⟩ <;> rw [e] <;> exact .inl ⟨rfl, rfl⟩

/-! #### What a step does to a stream -/

/-- The two states agree but for what says nothing of a stream's progress: what the host's side writes (as
`State.SameBlock`) and TU.other. -/
def State.SameStream (s t : State) : Prop :=
  t = { s with
    fb := t.fb, regX := t.regX, regY := t.regY, regW := t.regW, regBm0 := t.regBm0, regBm1 := t.regBm1,
    result := t.result, outcome := t.outcome, host := t.host, sched := t.sched, turn := t.turn
    tu := { s.tu with other := t.tu.other } }

theorem State.SameStream.refl (s : State) : s.SameStream s := rfl

theorem State.SameStream.trans {s t u : State} (hst : s.SameStream t) (htu : t.SameStream u) : s.SameStream u := by
  unfold State.SameStream at hst htu ⊢
  rw [hst] at htu
  exact htu

theorem State.SameBlock.sameStream {s t : State} (h : s.SameBlock t) : s.SameStream t := by
  rw [h]; rfl

/-- What FAIL leaves (44_dma_streaming_engine.md R244). -/
def State.failed (s : State) : State := { s with tu := { s.tu with active := false, other := true } }

/-- Halfword k of the record in flight, the one before the cursor (44_dma_streaming_engine.md R213, R214). -/
def State.nextHalf (s : State) (hk : s.tu.k < 4) : Half := s.queue.slots[s.queue.cursor.val - 1][s.tu.k]

/-- The steps that bring a stream on (44_dma_streaming_engine.md R222, R242, R246). -/
inductive State.Advances (s : State) : State → Prop
  | moves (hk : s.tu.k < 4) (ha : s.tu.active = true) : s.Advances (s.tuMoveHalf (s.nextHalf hk))
  | shifts {half : Half} {rest : List Half} (hp : s.shifter.pending = half :: rest) :
    s.Advances { s with shifter := { s.shifter with pending := rest }, trace := s.trace ++ [.word half] }
  | startsRecord {c : Fin 9} (hc : s.tu.tc = true) (hp : s.shifter.pending = [])
    (hleft : s.queue.cursor.val < s.queue.count.val) (hcur : c.val = s.queue.cursor.val + 1) :
    s.Advances (s.nextRecordStarted c)
  | ends (hc : s.tu.tc = true) (hp : s.shifter.pending = []) (hnone : s.queue.count.val ≤ s.queue.cursor.val) :
    s.Advances s.streamEnded

theorem State.pending_of_irqEnabled {s : State} (hen : s.irqEnabled = true) (hc : s.tu.tc = true) :
    s.shifter.pending = [] := by
  simp only [s.irqEnabled_eq, hc, Bool.and_eq_true] at hen
  simpa using hen.2

section

variable {s t : State} (hs : s.Inv) (he : s.engine ≠ .idle)

include hs he

/-- In a stream INIT is refused and FLASH rejected, so the host leaves the block alone. -/
theorem State.hostStep_stream (h : s.hostStep = .next t) : s.SameBlock t := by
  rcases State.hostStep_block h with hb | ⟨u, hu, hInit | hFlash⟩
  · exact hb
  all_goals
    have hui := hs.of_sameBlock hu
    have hue : u.engine ≠ .idle := by rw [hu]; exact he
    have hinit := hui.initDone_of_stream hue
  · rw [execInit_reinit hinit] at hInit
    exact hu.trans (next_inj hInit ▸ rfl)
  · rw [execFlash_busy hinit (hui.busyEngine.mpr hue)] at hFlash
    exact hu.trans (next_inj hFlash ▸ rfl)

theorem execEngIrq_stream (h : execEngIrq s = .next t) : s.SameStream t ∨ s.Advances t := by
  rcases execEngIrq_cases s t h with rfl | ⟨-, hc, rfl⟩ | ⟨-, -, hidle, -⟩ | ⟨hen, hc, -, -, hleft, c, hcur, rfl⟩ |
    ⟨-, hc, -, ha, -⟩ | ⟨hen, hc, -, hnone, rfl⟩
  · exact .inl (.refl t)
  · left
    have htu : s.tu = { s.tu with tc := false } := hc ▸ rfl
    unfold State.SameStream
    rw [htu]
    rfl
  · exact absurd hidle he
  · exact .inr (.startsRecord hc (State.pending_of_irqEnabled hen hc) hleft hcur)
  · have hidle := (hs.inStream he).idle_of_complete hc
    exact absurd (hidle.symm.trans ha) Bool.false_ne_true
  · exact .inr (.ends hc (State.pending_of_irqEnabled hen hc) hnone)

theorem State.tuMove_stream : s.SameStream s.tuMove ∨ s.Advances s.tuMove := by
  have stream := hs.inStream he
  by_cases hen : s.tuMoveEnabled = true
  · obtain ⟨ha, -, -⟩ := s.tuMoveEnabled_iff.mp hen
    have hk := stream.moving ha
    rw [State.tuMove_of_read hen (stream.reads_record hk)]
    exact .inr (.moves hk ha)
  · rw [State.tuMove_disabled (Bool.eq_false_iff.mpr hen)]
    exact .inl (.refl s)

/-- Everything an agent's step can do to a stream in flight. -/
theorem State.agentStep_stream {a : Agent} (h : s.agentStep a = .next t) :
    s.SameStream t ∨ (s.params.tuMayFail = true ∧ t = s.failed) ∨ s.Advances t := by
  cases a with
  | host => exact .inl (State.hostStep_stream hs he h).sameStream
  | bench =>
    simp only [State.agentStep, State.benchStep, hs.benchEmpty] at h
    exact .inl (next_inj h ▸ .refl s)
  | irq => exact (execEngIrq_stream hs he h).imp_right .inr
  | tuMove =>
    cases h
    exact (State.tuMove_stream hs he).imp_right .inr
  | tuFail =>
    cases h
    rcases s.tuFail_cases with e | ⟨hmay, -, e⟩ <;> rw [e]
    · exact .inl (.refl s)
    · exact .inr (.inl ⟨hmay, rfl⟩)
  | tuOther =>
    cases h
    rcases s.tuOther_cases with e | ⟨-, -, e⟩ <;> rw [e] <;> exact .inl rfl
  | shShift =>
    cases h
    rcases s.shShift_cases with ⟨-, e⟩ | ⟨half, rest, hp, e⟩ <;> rw [e]
    · exact .inl (.refl s)
    · exact .inr (.inr (.shifts hp))

end

/-! #### What a stream has put on the bus and what remains (44_dma_streaming_engine.md R225) -/

/-- The bus trace as it will be when the stream in flight has ended. -/
def State.promise (s : State) : List BusEvent := s.trace ++ s.remaining

/-- The staged records from slot c on, as bus events. -/
def State.staged (s : State) (c : Nat) : List BusEvent :=
  ((s.queue.slots.toList.take s.queue.count.val).drop c).flatMap recordEvents

theorem State.staged_of_lt {s : State} {c : Nat} (hc : c < s.queue.count.val) :
    s.staged c = recordEvents s.queue.slots[c] ++ s.staged (c + 1) := by
  have hlen : c < (s.queue.slots.toList.take s.queue.count.val).length := by simp; omega
  rw [State.staged, List.drop_eq_getElem_cons hlen, List.flatMap_cons, List.getElem_take, Vector.getElem_toList]
  rfl

theorem State.staged_of_ge {s : State} {c : Nat} (hc : s.queue.count.val ≤ c) : s.staged c = [] := by
  rw [State.staged, List.drop_of_length_le (by simp; omega), List.flatMap_nil]

theorem State.remaining_idle {s : State} (he : s.engine = .idle) :
    s.remaining = s.shifter.pending.map .word := if_pos he

theorem State.remaining_stream {s : State} (he : s.engine ≠ .idle) : s.remaining =
    s.shifter.pending.map .word ++ (s.queue.slots[s.queue.cursor.val - 1].toList.drop s.tu.k).map .word ++
      [.csDeassert, .csAssert] ++ s.staged s.queue.cursor.val ++ extraLatch s.params := if_neg he

/-- A record just started, with nothing in the shifter: all of it remains, and what is staged after it. -/
theorem State.remaining_recordStart {s : State} (he : s.engine ≠ .idle) (hp : s.shifter.pending = [])
    (hk : s.tu.k = 0) (htaken : 1 ≤ s.queue.cursor.val) (hcount : s.queue.cursor.val ≤ s.queue.count.val) :
    s.remaining = s.staged (s.queue.cursor.val - 1) ++ extraLatch s.params := by
  have hlast : s.queue.cursor.val - 1 < s.queue.count.val := by omega
  rw [State.remaining_stream he, State.staged_of_lt hlast, Nat.sub_add_cancel htaken, hp, hk]
  rfl

/-- A record wholly on the bus: its latch remains, and what is staged after it. -/
theorem State.remaining_recordDone {s : State} (he : s.engine ≠ .idle) (hp : s.shifter.pending = [])
    (hk : s.tu.k = 4) :
    s.remaining = [.csDeassert, .csAssert] ++ (s.staged s.queue.cursor.val ++ extraLatch s.params) := by
  have hdrop : s.queue.slots[s.queue.cursor.val - 1].toList.drop 4 = [] := List.drop_of_length_le (by simp)
  rw [State.remaining_stream he, hp, hk, hdrop]
  rfl

theorem State.SameStream.promise {s t : State} (h : s.SameStream t) : t.promise = s.promise := by
  rw [h]; rfl

theorem State.Advances.promise {s t : State} (hs : s.Inv) (he : s.engine ≠ .idle) (h : s.Advances t) :
    t.promise = s.promise := by
  have stream := hs.inStream he
  cases h with
  | moves hk ha =>
    have hdrop : s.queue.slots[s.queue.cursor.val - 1].toList.drop s.tu.k =
        s.nextHalf hk :: s.queue.slots[s.queue.cursor.val - 1].toList.drop (s.tu.k + 1) := by
      rw [List.drop_eq_getElem_cons (by simpa using hk), Vector.getElem_toList]
      rfl
    have het : (s.tuMoveHalf (s.nextHalf hk)).engine ≠ .idle := he
    rw [State.promise, State.promise, State.remaining_stream he, State.remaining_stream het, hdrop]
    simp [State.tuMoveHalf, State.staged]
  | shifts hp =>
    rw [State.promise, State.promise, State.remaining_stream he, State.remaining_stream (by exact he), hp]
    simp [State.staged]
  | @startsRecord c hc hp hleft hcur =>
    rw [State.promise, State.promise, State.remaining_recordDone he hp (stream.complete.mp hc),
      State.remaining_recordStart (s := s.nextRecordStarted c) nofun hp rfl (hcur ▸ Nat.succ_pos _)
        (hcur.trans_le hleft)]
    simp [State.nextRecordStarted, State.staged, hcur]
  | ends hc hp hnone =>
    rw [State.promise, State.promise, State.remaining_recordDone he hp (stream.complete.mp hc),
      State.staged_of_ge hnone, State.remaining_idle rfl]
    simp [State.streamEnded, hp]

/-- Settles O55: a step of a stream changes nothing of it, stops it with what it promised still to come, or brings it
on. -/
theorem theFrameInFlightIsFixed : Obligations.TheFrameInFlightIsFixed := by
  intro s t hs he h
  have hturn := s.turnTaken_sameBlock
  have hu := hs.of_sameBlock hturn
  have hue : s.turnTaken.engine ≠ .idle := by rwa [s.turnTaken_engine]
  refine Eq.trans (b := s.turnTaken.promise) ?_ hturn.sameStream.promise
  rcases State.agentStep_stream hu hue h with hsame | ⟨-, rfl⟩ | hadv
  · exact hsame.promise
  · rfl
  · exact hadv.promise hu hue

/-- FLASH has staged all 8 rows, row r as record r. -/
theorem State.flashed_staged (s : State) : s.flashed.staged 0 =
    (Vector.ofFn fun r : Fin 8 => seqRow r.val s.fb[r.val]).toList.flatMap recordEvents := by
  rw [State.staged, List.drop_zero, List.take_of_length_le (by simp [State.flashed])]
  rfl

/-- Settles O54: an accepted FLASH has appended CsAssert, and all 8 records remain. -/
theorem flashPromisesItsFrame : Obligations.FlashPromisesItsFrame := by
  intro s hs hinit hbusy
  have rest := hs.atRest (hs.idle_of_not_busy hbusy)
  have hremaining := State.remaining_recordStart (s := s.flashed) nofun rest.shifted rfl le_rfl (by decide : 1 ≤ 8)
  refine ⟨s.flashed, execFlash_accepted hinit hbusy rest.idle, nofun, ?_⟩
  calc s.flashed.trace ++ s.flashed.remaining
      = s.trace ++ [.csAssert] ++ (s.flashed.staged 0 ++ extraLatch s.params) := by rw [hremaining]; rfl
    _ = s.trace ++ frameEvents s.params s.fb := by rw [s.flashed_staged, List.append_assoc]; rfl

end Sys2Proof.Machine

/-! ### A stream that goes on ends: on the schedule of 95_test_vectors.md, and in every fair run
(44_dma_streaming_engine.md R225, R251)
-/

namespace Sys2Proof.Machine

/-! #### Streams that have not stopped -/

/-- A stream that has not stopped, or one that has ended, with room in the shifter (00_scope.md R9). -/
structure State.Flowing (s : State) : Prop where
  inv : s.Inv
  depth : 1 ≤ s.params.shifterDepth
  live : s.engine ≠ .idle → s.tu.active = true ∨ s.tu.tc = true
  ended : s.engine = .idle → s.queue.cursor = s.queue.count

theorem State.Inv.of_sameStream {s t : State} (hs : s.Inv) (he : s.engine ≠ .idle) (h : s.SameStream t) : t.Inv := by
  rw [h]
  exact { hs with
    atRest := fun hidle => absurd hidle he
    inStream := fun _ => { hs.inStream he with } }

theorem State.Flowing.of_sameStream {s t : State} (hf : s.Flowing) (he : s.engine ≠ .idle) (h : s.SameStream t) :
    t.Flowing := by
  have hinv := hf.inv.of_sameStream he h
  rw [h] at hinv ⊢
  exact { hf with inv := hinv }

theorem State.Advances.flowing {s t : State} (hf : s.Flowing) (he : s.engine ≠ .idle) (ht : t.Inv)
    (h : s.Advances t) : t.Flowing := by
  cases h with
  | moves hk ha =>
    refine ⟨ht, hf.depth, fun _ => ?_, fun hidle => absurd hidle he⟩
    rw [State.tuMoveHalf_record ha (hf.inv.inStream he).length]
    by_cases hlast : s.tu.k = 3 <;> simp [hlast]
  | shifts hp => exact ⟨ht, hf.depth, hf.live, hf.ended⟩
  | startsRecord hc hp hleft hcur => exact ⟨ht, hf.depth, fun _ => .inl rfl, nofun⟩
  | ends hc hp hnone =>
    exact ⟨ht, hf.depth, fun hne => absurd rfl hne, fun _ => le_antisymm hf.inv.cursorCount hnone⟩

theorem State.Advances.sched {s t : State} (h : s.Advances t) : t.sched = s.sched := by
  cases h <;> rfl

theorem State.Advances.count {s t : State} (h : s.Advances t) : t.queue.count = s.queue.count := by
  cases h <;> rfl

/-- A stream that has ended has put on the bus all it promised. -/
theorem State.Inv.promise_idle {s : State} (hs : s.Inv) (he : s.engine = .idle) : s.promise = s.trace := by
  rw [State.promise, State.remaining_idle he, (hs.atRest he).shifted, List.map_nil, List.append_nil]

theorem State.Inv.not_busy {s : State} (hs : s.Inv) (he : s.engine = .idle) : s.busy = false := by
  rw [Bool.eq_false_iff, Ne, hs.busyEngine, not_not]
  exact he

/-! #### The turns that end a stream -/

/-- The agent whose step brings a stream on: a word in the shifter goes first, then a completion, then the next
halfword. -/
def State.leadAgent (s : State) : Agent :=
  if s.serialIsBusy then .shShift else if s.tu.tc then .irq else .tuMove

/-- The turns that end the stream if no other agent steps: the words in the shifter, the rest of the record in flight
with its pass, and the records still staged. -/
def State.leadTurns (s : State) : List Agent :=
  if s.engine = .idle then []
  else
    List.replicate s.shifter.pending.length .shShift ++
      ((List.replicate (4 - s.tu.k) [.tuMove, .shShift]).flatten ++
        (.irq :: (List.replicate (s.queue.count.val - s.queue.cursor.val) recordTurns).flatten))

theorem State.leadTurns_idle {s : State} (he : s.engine = .idle) : s.leadTurns = [] := if_pos he

theorem State.leadTurns_stream {s : State} (he : s.engine ≠ .idle) : s.leadTurns =
    List.replicate s.shifter.pending.length .shShift ++
      ((List.replicate (4 - s.tu.k) [.tuMove, .shShift]).flatten ++
        (.irq :: (List.replicate (s.queue.count.val - s.queue.cursor.val) recordTurns).flatten)) := if_neg he

theorem State.leadTurns_length {s : State} (he : s.engine ≠ .idle) : s.leadTurns.length =
    s.shifter.pending.length + (4 - s.tu.k) * 2 + 1 + (s.queue.count.val - s.queue.cursor.val) * 9 := by
  simp [State.leadTurns_stream he, recordTurns]
  omega

theorem State.engine_idle_of_leadTurns {s : State} (h : s.leadTurns = []) : s.engine = .idle := by
  by_contra he
  have hlen := State.leadTurns_length he
  rw [h, List.length_nil] at hlen
  omega

/-- Every step that brings the stream on, whoever takes it, brings it nearer to its end. -/
theorem State.Advances.leadTurns_lt {s t : State} (he : s.engine ≠ .idle) (h : s.Advances t) :
    t.leadTurns.length < s.leadTurns.length := by
  cases h with
  | moves hk ha =>
    rw [State.leadTurns_length he, State.leadTurns_length (s := s.tuMoveHalf _) he]
    simp only [State.tuMoveHalf, List.length_append, List.length_singleton]
    omega
  | shifts hp =>
    rw [State.leadTurns_length he, State.leadTurns_length (by exact he), hp, List.length_cons]
    dsimp only
    omega
  | @startsRecord c hc hp hleft hcur =>
    rw [State.leadTurns_length he, State.leadTurns_length (s := s.nextRecordStarted c) nofun]
    simp only [State.nextRecordStarted, hcur]
    omega
  | ends hc hp hnone =>
    rw [State.leadTurns_length he, State.leadTurns_idle rfl, List.length_nil]
    omega

/-- The agent's step is enabled, brings the stream on and leaves the other turns to be taken. -/
def State.Leads (s : State) (a : Agent) : Prop :=
  s.agentEnabled a = true ∧ ∃ t, s.agentStep a = .next t ∧ s.Advances t ∧ s.leadTurns = a :: t.leadTurns

theorem State.shShift_leads {s : State} {half : Half} {rest : List Half} (he : s.engine ≠ .idle)
    (hp : s.shifter.pending = half :: rest) : s.Leads .shShift := by
  refine ⟨by simp [State.agentEnabled, s.serialIsBusy_iff, hp], _, congrArg _ (State.shShift_cons hp), .shifts hp, ?_⟩
  rw [State.leadTurns_stream he, State.leadTurns_stream (by exact he), hp]
  rfl

section

variable {s : State} (hf : s.Flowing) (he : s.engine ≠ .idle) (hp : s.shifter.pending = [])

include hf he hp

theorem State.Flowing.irq_leads (hc : s.tu.tc = true) : s.Leads .irq := by
  have stream := hf.inv.inStream he
  have hie : s.ie = true := hf.inv.enableInit.trans (hf.inv.initDone_of_stream he)
  refine ⟨State.irqEnabled_of_complete hie hc hp, ?_⟩
  rw [State.leadTurns_stream he, hp, stream.complete.mp hc]
  by_cases hleft : s.queue.cursor.val < s.queue.count.val
  · refine ⟨_, execEngIrq_next hie hc hp he (stream.idle_of_complete hc) hleft, .startsRecord hc hp hleft rfl, ?_⟩
    have hcount : s.queue.count.val - s.queue.cursor.val =
        s.queue.count.val - (s.queue.cursor.val + 1) + 1 := by omega
    rw [State.leadTurns_stream (s := s.nextRecordStarted _) nofun, hcount, List.replicate_succ]
    simp only [State.nextRecordStarted, hp]
    rfl
  · have hnone : s.queue.count.val ≤ s.queue.cursor.val := Nat.le_of_not_lt hleft
    refine ⟨_, execEngIrq_last hie hc hp he hnone, .ends hc hp hnone, ?_⟩
    rw [State.leadTurns_idle rfl, Nat.sub_eq_zero_of_le hnone]
    rfl

theorem State.Flowing.tuMove_leads (ha : s.tu.active = true) : s.Leads .tuMove := by
  have stream := hf.inv.inStream he
  have hk := stream.moving ha
  have hen : s.tuMoveEnabled = true := s.tuMoveEnabled_iff.mpr ⟨ha, stream.length ▸ hk, hp ▸ hf.depth⟩
  refine ⟨hen, _, congrArg _ (State.tuMove_of_read hen (stream.reads_record hk)), .moves hk ha, ?_⟩
  have hmoves : 4 - s.tu.k = 4 - (s.tu.k + 1) + 1 := by omega
  rw [State.leadTurns_stream he, State.leadTurns_stream (s := s.tuMoveHalf _) he, hmoves, List.replicate_succ]
  simp only [State.tuMoveHalf, hp]
  rfl

end

theorem State.Flowing.leads {s : State} (hf : s.Flowing) (he : s.engine ≠ .idle) : s.Leads s.leadAgent := by
  unfold State.leadAgent
  cases hp : s.shifter.pending with
  | cons half rest =>
    rw [if_pos (by simp [s.serialIsBusy_iff, hp])]
    exact State.shShift_leads he hp
  | nil =>
    rw [if_neg (by simp [s.serialIsBusy_iff, hp])]
    by_cases hc : s.tu.tc = true
    · rw [if_pos hc]
      exact hf.irq_leads he hp hc
    · rw [if_neg hc]
      exact hf.tuMove_leads he hp ((hf.live he).resolve_right hc)

/-! #### The fixed schedule -/

/-- On the turns that end it, a stream ends. -/
theorem run_leadTurns {turns rest : List Agent} {s : State} (hf : s.Flowing) (hturns : s.leadTurns = turns)
    (hsched : s.sched = turns ++ rest) :
    ∃ t, Host.Core.run Sys2Proof.core turns.length s = .next t ∧ t.Flowing ∧ t.engine = .idle ∧
      t.promise = s.promise ∧ t.queue.count = s.queue.count ∧ t.sched = rest := by
  induction turns generalizing s with
  | nil => exact ⟨s, rfl, hf, State.engine_idle_of_leadTurns hturns, rfl, rfl, hsched⟩
  | cons a turns ih =>
    have he : s.engine ≠ .idle := fun hidle => nomatch (State.leadTurns_idle hidle).symm.trans hturns
    have hturn : s.SameStream { s with sched := turns ++ rest } := rfl
    have hfu := hf.of_sameStream he hturn
    obtain ⟨-, t, hstep, hadv, hlead⟩ := hfu.leads he
    obtain ⟨hagent, hmore⟩ := List.cons.inj (hturns.symm.trans hlead)
    rw [← hagent] at hstep
    have hft := hadv.flowing hfu he (State.agentStep_inv hfu.inv hstep)
    obtain ⟨v, hrun, hfv, hidle, hpromise, hcount, hrest⟩ := ih hft hmore.symm hadv.sched
    refine ⟨v, (core_run_succ ((step_cons s a _ hsched).trans hstep) _).trans hrun, hfv, hidle, ?_, ?_, hrest⟩
    · exact hpromise.trans ((hadv.promise hfu.inv he).trans hturn.promise)
    · exact hcount.trans hadv.count

/-- Settles O56: the schedule is the turns that end the stream, which is at the start of a record. -/
theorem streamDrainsEveryStagedRecord : Obligations.StreamDrainsEveryStagedRecord := by
  intro s passes rest hs hwf he ha hk ho hp hpasses hsched
  have hf : s.Flowing := ⟨hs, of_decide_eq_true hwf, fun _ => .inl ha, fun hidle => absurd hidle he⟩
  have hcount : s.queue.cursor.val ≤ s.queue.count.val := hs.cursorCount
  have hturns : s.leadTurns = (List.replicate passes recordTurns).flatten := by
    have hleft : passes = s.queue.count.val - s.queue.cursor.val + 1 := by omega
    rw [State.leadTurns_stream he, hp, hk, hleft, List.replicate_succ]
    rfl
  obtain ⟨t, hrun, hft, hidle, hpromise, hcountt, hrest⟩ := run_leadTurns hf hturns hsched
  have hlen : ((List.replicate passes recordTurns).flatten).length = 9 * passes := by
    simp [recordTurns, Nat.mul_comm]
  rw [hlen] at hrun
  refine ⟨t, hrun, hft.inv.not_busy hidle, hidle, (hft.ended hidle).trans hcountt, hrest, ?_⟩
  rw [← hft.inv.promise_idle hidle, hpromise, State.promise,
    State.remaining_recordStart he hp hk (hs.inStream he).taken hcount, List.append_assoc]
  rfl

/-! #### Fair runs -/

/-- A later state of the same stream, nearer to its end. -/
structure State.Nearer (s t : State) : Prop where
  flowing : t.Flowing
  promise : t.promise = s.promise
  turns : t.leadTurns.length < s.leadTurns.length

theorem State.SameStream.leadAgent {s t : State} (h : s.SameStream t) : t.leadAgent = s.leadAgent := by
  rw [h]; rfl

theorem State.SameStream.engine {s t : State} (h : s.SameStream t) : t.engine = s.engine := by
  rw [h]

/-- Being nearer the end asks nothing of what a stream's progress does not depend on. -/
theorem State.Nearer.of_sameStream {s t u : State} (hst : s.SameStream t) (htu : t.Nearer u) : s.Nearer u where
  flowing := htu.flowing
  promise := htu.promise.trans hst.promise
  turns := by
    have hturns : t.leadTurns = s.leadTurns := by rw [hst]; rfl
    exact hturns ▸ htu.turns

section

variable {s t : State} (hf : s.Flowing) (he : s.engine ≠ .idle)

include hf he

theorem State.Advances.nearer (ht : t.Inv) (h : s.Advances t) : s.Nearer t :=
  ⟨h.flowing hf he ht, h.promise hf.inv he, h.leadTurns_lt he⟩

/-- Without FAIL a step of a stream leaves it where it was or brings it nearer to its end. -/
theorem State.Flowing.step_stays_or_nearer (hmay : s.params.tuMayFail = false) (h : step s = .next t) :
    s.SameStream t ∨ s.Nearer t := by
  have hturn := s.turnTaken_sameBlock.sameStream
  have hfu := hf.of_sameStream he hturn
  have heu : s.turnTaken.engine ≠ .idle := hturn.engine ▸ he
  have ht := everyStepKeepsTheInvariant s t hf.inv h
  rcases State.agentStep_stream hfu.inv heu h with hsame | ⟨hfail, -⟩ | hadv
  · exact .inl (hturn.trans hsame)
  · rw [s.turnTaken_params, hmay] at hfail
    cases hfail
  · exact .inr ((hadv.nearer hfu heu ht).of_sameStream hturn)

/-- The turn of the agent that leads the stream brings it nearer to its end. -/
theorem State.Flowing.step_lead (hlead : s.nextAgent = s.leadAgent) (h : step s = .next t) : s.Nearer t := by
  have hturn := s.turnTaken_sameBlock.sameStream
  have hfu := hf.of_sameStream he hturn
  have heu : s.turnTaken.engine ≠ .idle := hturn.engine ▸ he
  have ht := everyStepKeepsTheInvariant s t hf.inv h
  obtain ⟨-, u, hstep, hadv, -⟩ := hfu.leads heu
  rw [step, hlead, ← hturn.leadAgent, hstep] at h
  cases h
  exact (hadv.nearer hfu heu ht).of_sameStream hturn

end

theorem State.leadAgent_mem (s : State) : s.leadAgent ∈ [Agent.tuMove, Agent.shShift, Agent.irq] := by
  unfold State.leadAgent
  split_ifs <;> simp

section

variable {run : Nat → State} (hrun : FairRun run)

include hrun

theorem FairRun.params (n : Nat) : (run n).params = (run 0).params := by
  induction n with
  | zero => rfl
  | succ n ih => exact (step_grows (hrun.steps n)).params.trans ih

variable (hmay : (run 0).params.tuMayFail = false)

include hmay

/-- For any number of steps the stream stays where it was, or it has come nearer to its end on the way. -/
theorem FairRun.stays_or_nearer {n : Nat} (hf : (run n).Flowing) (he : (run n).engine ≠ .idle) (d : Nat) :
    (run n).SameStream (run (n + d)) ∨ ∃ m, (run n).Nearer (run m) := by
  induction d with
  | zero => exact .inl (.refl _)
  | succ d ih =>
    rcases ih with hsame | hnearer
    · have hfd := hf.of_sameStream he hsame
      have hed : (run (n + d)).engine ≠ .idle := hsame.engine ▸ he
      have hmayd : (run (n + d)).params.tuMayFail = false := hrun.params (n + d) ▸ hmay
      rcases hfd.step_stays_or_nearer hed hmayd (hrun.steps (n + d)) with hnext | hnext
      · exact .inl (hsame.trans hnext)
      · exact .inr ⟨_, hnext.of_sameStream hsame⟩
    · exact .inr hnearer

/-- A stream in flight comes nearer to its end: the agent that leads it stays enabled until the stream has moved on, so
it is eventually given a turn (44_dma_streaming_engine.md R251). -/
theorem FairRun.nearer {n : Nat} (hf : (run n).Flowing) (he : (run n).engine ≠ .idle) :
    ∃ m, (run n).Nearer (run m) := by
  obtain ⟨m, hnm, hfair⟩ := hrun.fair _ (run n).leadAgent_mem n
  obtain ⟨d, rfl⟩ := Nat.exists_eq_add_of_le hnm
  rcases hrun.stays_or_nearer hmay hf he d with hsame | hnearer
  · have hfm := hf.of_sameStream he hsame
    have hem : (run (n + d)).engine ≠ .idle := hsame.engine ▸ he
    rw [← hsame.leadAgent] at hfair
    obtain ⟨henabled, -⟩ := hfm.leads hem
    have hlead := hfair.resolve_left (by simp [henabled])
    exact ⟨_, (hfm.step_lead hem hlead (hrun.steps (n + d))).of_sameStream hsame⟩
  · exact hnearer

theorem FairRun.ends {turns n : Nat} (hf : (run n).Flowing) (hturns : (run n).leadTurns.length = turns) :
    ∃ m, (run m).Flowing ∧ (run m).engine = .idle ∧ (run m).promise = (run n).promise := by
  induction turns using Nat.strong_induction_on generalizing n with
  | h turns ih =>
    by_cases he : (run n).engine = .idle
    · exact ⟨n, hf, he, rfl⟩
    · obtain ⟨k, hk⟩ := hrun.nearer hmay hf he
      obtain ⟨m, hfm, hidle, hpromise⟩ := ih _ (hturns ▸ hk.turns) hk.flowing rfl
      exact ⟨m, hfm, hidle, hpromise.trans hk.promise⟩

end

/-- Settles O57: a stream that has not stopped comes nearer to its end until it ends, and its promise never changes. -/
theorem fairStreamsEnd : Obligations.FairStreamsEnd := by
  intro run hrun hs hwf hmay he hlive
  have hf : (run 0).Flowing := ⟨hs, of_decide_eq_true hwf, fun _ => hlive, fun hidle => absurd hidle he⟩
  obtain ⟨m, hfm, hidle, hpromise⟩ := hrun.ends hmay hf rfl
  exact ⟨m, hfm.inv.not_busy hidle, (hfm.inv.promise_idle hidle).symm.trans hpromise⟩

end Sys2Proof.Machine

/-! ### The host's wait and the stall (60_exceptions.md R273, R284)
-/

namespace Sys2Proof.Machine

/-! #### The host's wait -/

theorem State.hostStep_waits {s : State} (hirq : s.irqPending = true) : s.hostStep = .next s := if_pos hirq

/-- Settles O40: an enabled cause is pending, so the host's step passes. -/
theorem hostWaitsWhileAnInterruptIsPending : Obligations.HostWaitsWhileAnInterruptIsPending := by
  intro s rest hsched hie hcause
  have hirq : s.irqPending = true := by rwa [s.irqPending_eq, hie, Bool.true_and, Bool.or_eq_true]
  exact (step_cons s .host rest hsched).trans (State.hostStep_waits hirq)

/-! #### The stall -/

/-- The stall reads five fields. -/
theorem State.Stalled.of_eq {s t : State} (hs : s.Stalled) (bench : t.bench = s.bench := by rfl)
    (busy : t.busy = s.busy := by rfl) (engine : t.engine = s.engine := by rfl)
    (active : t.tu.active = s.tu.active := by rfl) (completion : t.tu.tc = s.tu.tc := by rfl) : t.Stalled where
  benchEmpty := bench.trans hs.benchEmpty
  busy := busy.trans hs.busy
  streaming := engine ▸ hs.streaming
  stopped := active.trans hs.stopped
  noCompletion := completion.trans hs.noCompletion

theorem State.Stalled.of_sameBlock {s t : State} (hs : s.Stalled) (h : s.SameBlock t) : t.Stalled := by
  rw [h]; exact hs.of_eq

theorem State.benchStep_empty {s : State} (h : s.bench = []) : s.benchStep = .next s := by
  rw [State.benchStep, h]

/-- No host step ends a stall: INIT leaves alone what the stall reads, and FLASH is rejected while B = 1
(60_exceptions.md R284). -/
theorem State.Stalled.hostStep {s t : State} (hs : s.Stalled) (h : s.hostStep = .next t) : t.Stalled := by
  rcases State.hostStep_block h with hb | ⟨u, hu, hInit | hFlash⟩
  · exact hs.of_sameBlock hb
  · have hsu := hs.of_sameBlock hu
    rcases execInit_cases u t hInit with ⟨-, rfl⟩ | ⟨-, rfl⟩ <;> exact hsu.of_eq
  · have hsu := hs.of_sameBlock hu
    rcases execFlash_cases u t hFlash with ⟨-, -, rfl⟩ | ⟨-, hfree, -⟩ | ⟨-, hfree, -⟩ | ⟨-, rfl⟩
    · exact hsu.of_eq
    · exact absurd (hfree.symm.trans hsu.busy) Bool.false_ne_true
    · exact absurd (hfree.symm.trans hsu.busy) Bool.false_ne_true
    · exact hsu.of_eq

/-- With no completion to serve, a pass of ENG_IRQ acknowledges another cause at most (44_dma_streaming_engine.md
R221). -/
theorem execEngIrq_noCompletion {s t : State} (hc : s.tu.tc = false) (h : execEngIrq s = .next t) :
    t = s ∨ t = s.transferClearInterrupt.returns .ok := by
  have hno : s.tu.tc ≠ true := Bool.eq_false_iff.mp hc
  rcases execEngIrq_cases s t h with hsame | ⟨-, -, hack⟩ | ⟨-, hc', -⟩ | ⟨-, hc', -⟩ | ⟨-, hc', -⟩ | ⟨-, hc', -⟩
  · exact .inl hsame
  · exact .inr hack
  all_goals exact absurd hc' hno

/-- With the TU idle neither its steps nor the shifter's touch what the stall reads, and no pass serves a completion. -/
theorem State.Stalled.agentStep {s t : State} {a : Agent} (hs : s.Stalled) (h : s.agentStep a = .next t) :
    t.Stalled := by
  have hidle : s.tu.active ≠ true := Bool.eq_false_iff.mp hs.stopped
  cases a with
  | host => exact hs.hostStep h
  | bench => exact next_inj ((State.benchStep_empty hs.benchEmpty).symm.trans h) ▸ hs
  | irq =>
    rcases execEngIrq_noCompletion hs.noCompletion h with rfl | rfl
    · exact hs
    · exact hs.of_eq (completion := hs.noCompletion.symm)
  | tuMove =>
    cases h
    have hoff : s.tuMoveEnabled = false := Bool.eq_false_iff.mpr fun hen => hidle (s.tuMoveEnabled_iff.mp hen).1
    rwa [State.tuMove_disabled hoff]
  | tuFail =>
    cases h
    rcases s.tuFail_cases with e | ⟨-, ha, -⟩
    · rwa [e]
    · exact absurd ha hidle
  | tuOther =>
    cases h
    rcases s.tuOther_cases with e | ⟨-, ha, -⟩
    · rwa [e]
    · exact absurd ha hidle
  | shShift =>
    cases h
    rcases s.shShift_cases with ⟨-, e⟩ | ⟨half, rest, -, e⟩ <;> rw [e]
    · exact hs
    · exact hs.of_eq

/-- Settles O53: giving out the turn and every agent's step keep the stall, and a busy block rejects FLASH. -/
theorem aStallIsForever : Obligations.AStallIsForever := fun s _ hs =>
  ⟨(hs.of_sameBlock s.turnTaken_sameBlock).agentStep, fun hinit => execFlash_busy hinit hs.busy⟩

end Sys2Proof.Machine

/-! ### The reset state, and INIT from it (70_reset_and_hazards.md R290, R292)
-/

namespace Sys2Proof.Machine

/-! #### The reset table -/

@[simp] theorem FaultMark.has_empty (why : FaultReason) : FaultMark.empty.has why = false := by
  cases why <;> rfl

theorem State.reset_status : State.reset.status = 0#32 := rfl

/-- Settles O10: each value of the reset table is the field's own; the rows and the fault reasons one by one. -/
theorem resetLeavesTheSpecifiedState : Obligations.ResetLeavesTheSpecifiedState :=
  ⟨fun _ hr => Vector.getElem_replicate hr, rfl, rfl, rfl, rfl, rfl, rfl, rfl, rfl, rfl, rfl, rfl, rfl, rfl, rfl, rfl,
    rfl, rfl, rfl, rfl, rfl, rfl, FaultMark.has_empty, State.reset_status⟩

/-- Settles O45: at reset nothing is in flight, so the clauses about a stream do not apply. -/
theorem invariantHoldsAtReset : Obligations.InvariantHoldsAtReset where
  benchEmpty := rfl
  noFault := rfl
  busyEngine := ⟨nofun, fun hne => absurd rfl hne⟩
  cursorCount := le_rfl
  shifterRoom := Nat.zero_le _
  enableInit := rfl
  serialInit := rfl
  selectInit := rfl
  idleBeforeInit _ := rfl
  atRest _ := ⟨rfl, rfl, rfl, rfl⟩
  inStream hne := absurd rfl hne

/-! #### INIT -/

/-- One chip-select event, then five bring-up words of 6 events each (44_dma_streaming_engine.md R227). -/
theorem bringUpEvents_length (p : Params) : (bringUpEvents p).length = 31 := rfl

/-- Settles O12: INIT's first run, whose events are all that the empty trace of reset then holds. -/
theorem stateAfterInit : Obligations.StateAfterInit :=
  ⟨bringUpEvents State.reset.params, bringUpEvents_length _, execInit_first rfl⟩

end Sys2Proof.Machine

/-! ### The hazards: whole latches on the bus, and the queue frozen under the transfer unit (70_reset_and_hazards.md
R300, R302)
-/

namespace Sys2Proof.Machine

/-! #### Traces of whole latches (R302) -/

/-- After a trace whose latches are paired, what follows decides. -/
theorem latchesPaired_append {before after : List BusEvent} (h : latchesPaired before = true) :
    latchesPaired (before ++ after) = latchesPaired after := by
  fun_induction latchesPaired before with
  | case1 => rfl
  | case2 rest ih => exact ih h
  | case3 => cases h
  | case4 rest ih => exact ih h
  | case5 half rest ih => exact ih h

theorem bringUpEvents_paired (p : Params) : latchesPaired (bringUpEvents p) = true := rfl

theorem extraLatch_paired (p : Params) : latchesPaired (extraLatch p) = true := by
  unfold extraLatch; split <;> rfl

/-! #### What the hazard rules ask of a step -/

/-- The step from s to t puts only whole latches on the bus (R302), and leaves the staged records and their count alone
while the transfer unit may be reading them (R300, 20_memory.md R63). -/
structure State.Orderly (s t : State) : Prop where
  latches : ∃ events, latchesPaired events = true ∧ t.trace = s.trace ++ events
  frozen : s.tu.active = true → t.queue.slots = s.queue.slots ∧ t.queue.count = s.queue.count

namespace State.Orderly

/-- A state that differs in neither the trace nor what is staged. -/
theorem of_eq {s t : State} (trace : t.trace = s.trace := by rfl) (slots : t.queue.slots = s.queue.slots := by rfl)
    (count : t.queue.count = s.queue.count := by rfl) : s.Orderly t where
  latches := ⟨[], rfl, trace.trans (List.append_nil _).symm⟩
  frozen _ := ⟨slots, count⟩

/-- Whole latches on the bus, and nothing new staged. -/
theorem of_events {s t : State} (events : List BusEvent) (paired : latchesPaired events = true := by rfl)
    (trace : t.trace = s.trace ++ events := by rfl) (slots : t.queue.slots = s.queue.slots := by rfl)
    (count : t.queue.count = s.queue.count := by rfl) : s.Orderly t where
  latches := ⟨events, paired, trace⟩
  frozen _ := ⟨slots, count⟩

/-- With the transfer unit idle anything may be staged, so only the bus matters: what is orderly but for the queue is
orderly with any queue. -/
theorem stages {s t : State} (hidle : s.tu.active = false) (h : s.Orderly t) (q : Queue) :
    s.Orderly { t with queue := q } where
  latches := h.latches
  frozen hactive := absurd (hidle.symm.trans hactive) Bool.false_ne_true

/-- Marking a fault neither reaches the bus nor stages anything. -/
theorem fault {s t : State} (h : s.Orderly t) (why : FaultReason) : s.Orderly (t.fault why) :=
  ⟨h.latches, h.frozen⟩

/-- What the host's register traffic writes before a step, the hazard rules do not read. -/
theorem after_sameBlock {s u t : State} (hsu : s.SameBlock u) (h : u.Orderly t) : s.Orderly t := by
  rw [hsu] at h
  exact ⟨h.latches, h.frozen⟩

end State.Orderly

theorem State.SameBlock.orderly {s t : State} (h : s.SameBlock t) : s.Orderly t := by
  rw [h]; exact .of_eq

/-! #### Every operation -/

theorem execInit_orderly {s t : State} (h : execInit s = .next t) : s.Orderly t := by
  rcases execInit_cases s t h with ⟨-, rfl⟩ | ⟨-, rfl⟩
  · exact .of_eq
  · exact .of_events (bringUpEvents s.params) (bringUpEvents_paired _)

/-- FLASH refills the queue, but only where it finds the transfer unit idle. -/
theorem execFlash_orderly {s t : State} (h : execFlash s = .next t) : s.Orderly t := by
  rcases execFlash_cases s t h with ⟨-, -, rfl⟩ | ⟨-, -, hidle, rfl⟩ | ⟨-, -, -, rfl⟩ | ⟨-, rfl⟩
  · exact .of_eq
  · exact .stages hidle (t := { s.flashed with queue := s.queue }) (.of_events [.csAssert]) _
  · exact .fault .of_eq _
  · exact .of_eq

theorem execFbRead_orderly {r : Byte} {s t : State} (h : execFbRead r s = .next t) : s.Orderly t := by
  by_cases hr : r.toNat < 8
  · rw [execFbRead_inside s hr] at h
    cases h; exact .of_eq
  · rw [execFbRead_outside s (by omega)] at h
    cases h; exact .of_eq

theorem execFbWrite_orderly {r : Byte} {v : Word} {s t : State} (h : execFbWrite r v s = .next t) : s.Orderly t := by
  by_cases hr : r.toNat < 8
  · rw [execFbWrite_inside s v hr] at h
    cases h; exact .of_eq
  · rw [execFbWrite_outside s v (by omega)] at h
    cases h; exact .of_eq

/-- Q_RESET of an active transfer unit is the error BusyError, which changes nothing. -/
theorem execQReset_orderly {s t : State} (h : execQReset s = .next t) : s.Orderly t := by
  cases next_inj h
  cases ha : s.tu.active
  · rw [s.qReset_idle ha]; exact .stages ha (t := s.returns .ok) .of_eq _
  · rw [s.qReset_active ha]; exact .of_eq

/-- Q_STAGE into an active transfer unit's queue is the error BusyError, which changes nothing. -/
theorem execQStage_orderly {rec : Record} {s t : State} (h : execQStage rec s = .next t) : s.Orderly t := by
  cases next_inj h
  rcases s.qStage_cases rec with ⟨-, e⟩ | ⟨-, -, e⟩ | ⟨ha, hroom, e⟩ <;> rw [e]
  · exact .of_eq
  · exact .of_eq
  · exact .stages ha (t := s.returns .ok) .of_eq _

theorem execQNext_orderly {s t : State} (h : execQNext s = .next t) : s.Orderly t := by
  by_cases hc : s.queue.cursor.val < s.queue.count.val
  · rw [execQNext_of_some (s.qNext_some hc)] at h
    cases h; exact .of_eq
  · rw [execQNext_of_none (s.qNext_none (by omega))] at h
    cases h; exact .of_eq

theorem execEngStart_orderly {s t : State} (h : execEngStart s = .next t) : s.Orderly t := by
  by_cases hc : s.queue.cursor.val < s.queue.count.val
  · cases ha : s.tu.active
    · rw [execEngStart_of_done (s.engineStart_ready ha hc)] at h
      cases h; exact .of_events [.csAssert]
    · rw [execEngStart_of_faulted (s.engineStart_active ha hc)] at h
      cases h; exact .fault .of_eq _
  · rw [execEngStart_of_faulted (s.engineStart_empty (by omega))] at h
    cases h; exact .of_eq

/-- A pass of ENG_IRQ latches once, and at the end of a stream once more where EXTRA_FINAL_LATCH asks for it; it moves
the cursor only. -/
theorem execEngIrq_orderly {s t : State} (h : execEngIrq s = .next t) : s.Orderly t := by
  rcases execEngIrq_cases s t h with rfl | ⟨-, -, rfl⟩ | ⟨-, -, -, rfl⟩ | ⟨-, -, -, -, -, c, -, rfl⟩ |
    ⟨-, -, -, -, -, c, -, rfl⟩ | ⟨-, -, -, -, rfl⟩
  · exact .of_eq
  · exact .of_eq
  · exact .of_eq
  · exact .of_events [.csDeassert, .csAssert]
  · exact .fault (.of_events [.csDeassert, .csAssert]) _
  · exact .of_events ([.csDeassert, .csAssert] ++ extraLatch s.params) (extraLatch_paired _) (List.append_assoc ..)

theorem execFinalize_orderly {s t : State} (h : execFinalize s = .next t) : s.Orderly t := by
  unfold execFinalize at h
  split at h <;> cases h
  · exact .of_eq
  · rw [State.latch_eq]; exact .of_events [.csDeassert, .csAssert]

theorem execSeqRow_orderly {r : BitVec 3} {v : Word} {s t : State} (h : execSeqRow r v s = .next t) : s.Orderly t := by
  cases next_inj h; exact .of_eq

theorem execBusWord_orderly {addr data : Byte} {s t : State} (h : execBusWord addr data s = .next t) :
    s.Orderly t := by
  cases next_inj h; exact .of_events [.word (commandWord addr data)]

/-- Every operation keeps to the hazard rules, from every state. -/
theorem exec_orderly {i : Instr} {s t : State} (h : exec i s = .next t) : s.Orderly t := by
  cases i with
  | init => exact execInit_orderly h
  | clear => exact (execClear_sameBlock h).orderly
  | draw n => exact (execDraw_sameBlock h).orderly
  | flash => exact execFlash_orderly h
  | fbRead r => exact execFbRead_orderly h
  | fbWrite r v => exact execFbWrite_orderly h
  | qReset => exact execQReset_orderly h
  | qStage rec => exact execQStage_orderly h
  | qNext => exact execQNext_orderly h
  | engStart => exact execEngStart_orderly h
  | engIrq => exact execEngIrq_orderly h
  | finalize => exact execFinalize_orderly h
  | seqRow r v => exact execSeqRow_orderly h
  | busWord addr data => exact execBusWord_orderly h

/-! #### Every agent's step -/

theorem State.hostStep_orderly {s t : State} (h : s.hostStep = .next t) : s.Orderly t := by
  rcases State.hostStep_block h with hb | ⟨u, hu, hInit | hFlash⟩
  · exact hb.orderly
  · exact .after_sameBlock hu (execInit_orderly hInit)
  · exact .after_sameBlock hu (execFlash_orderly hFlash)

/-- Taking a code off the bench's port is nothing the hazard rules read. -/
theorem State.benchStep_orderly {s t : State} (h : s.benchStep = .next t) : s.Orderly t := by
  rcases State.benchStep_cases h with rfl | ⟨codes, ⟨i, hi⟩ | ⟨why, rfl⟩⟩
  · exact .of_eq
  · have hrun := exec_orderly hi
    exact ⟨hrun.latches, hrun.frozen⟩
  · exact .of_eq

theorem State.tuMove_orderly (s : State) : s.Orderly s.tuMove := by
  rcases s.tuMove_cases with ⟨-, e⟩ | ⟨-, -, e⟩ | ⟨-, half, -, e⟩ <;> rw [e] <;> exact .of_eq

theorem State.tuFail_orderly (s : State) : s.Orderly s.tuFail := by
  rcases s.tuFail_cases with e | ⟨-, -, e⟩ <;> rw [e] <;> exact .of_eq

theorem State.tuOther_orderly (s : State) : s.Orderly s.tuOther := by
  rcases s.tuOther_cases with e | ⟨-, -, e⟩ <;> rw [e] <;> exact .of_eq

theorem State.shShift_orderly (s : State) : s.Orderly s.shShift := by
  rcases s.shShift_cases with ⟨-, e⟩ | ⟨half, rest, -, e⟩ <;> rw [e]
  · exact .of_eq
  · exact .of_events [.word half]

theorem State.agentStep_orderly {s t : State} {a : Agent} (h : s.agentStep a = .next t) : s.Orderly t := by
  cases a with
  | host => exact State.hostStep_orderly h
  | bench => exact State.benchStep_orderly h
  | irq => exact execEngIrq_orderly h
  | tuMove => exact next_inj h ▸ s.tuMove_orderly
  | tuFail => exact next_inj h ▸ s.tuFail_orderly
  | tuOther => exact next_inj h ▸ s.tuOther_orderly
  | shShift => exact next_inj h ▸ s.shShift_orderly

/-- Every step keeps to the hazard rules, from every state and whoever steps. -/
theorem step_orderly {s t : State} (h : step s = .next t) : s.Orderly t :=
  .after_sameBlock s.turnTaken_sameBlock (State.agentStep_orderly h)

/-- Settles O48: what a step appends to a trace of whole latches is again whole latches. -/
theorem latchesStayPaired : Obligations.LatchesStayPaired := by
  intro s t hpaired h
  obtain ⟨events, hevents, htrace⟩ := (step_orderly h).latches
  rw [htrace, latchesPaired_append hpaired, hevents]

/-- Settles O49: only FLASH, Q_RESET and Q_STAGE write what is staged, and each only with the transfer unit idle. -/
theorem queueIsFrozenWhileTheUnitIsActive : Obligations.QueueIsFrozenWhileTheUnitIsActive :=
  fun _ _ hactive h => (step_orderly h).frozen hactive

end Sys2Proof.Machine

/-! ### Decode and encode (30_encoding.md R72, R77, R81, R82)
-/

namespace Sys2Proof.Machine

/-! #### Words from their fields -/

/-- A CMD word without reserved bits is its other two fields (30_encoding.md R72). -/
theorem cmdWord_fields {w : Word} (h : cmdReserved w = 0#24) : cmdWord (cmdBmlen w) (cmdOp w) = w := by
  calc cmdWord (cmdBmlen w) (cmdOp w)
      = cmdReserved w ++ (cmdBmlen w ++ cmdOp w) := by rw [h, cmdWord]
    _ = cmdReserved w ++ w.extractLsb' 0 8 :=
        congrArg (cmdReserved w ++ ·) (BitVec.extractLsb'_append_extractLsb'_eq_extractLsb' rfl)
    _ = w.extractLsb' 0 32 := BitVec.extractLsb'_append_extractLsb'_eq_extractLsb' rfl
    _ = w := BitVec.extractLsb'_eq_self

/-- A bus word is its address byte before its data byte (30_encoding.md R82). -/
theorem busWord_fields (h : Half) : h.extractLsb' 8 8 ++ h.extractLsb' 0 8 = h :=
  (BitVec.extractLsb'_append_extractLsb'_eq_extractLsb' rfl).trans BitVec.extractLsb'_eq_self

theorem decode_busWord (addr data : Byte) : decode (.wire (addr ++ data)) = .ok (.busWord addr data) := by
  have haddr : (addr ++ data).extractLsb' 8 8 = addr :=
    (BitVec.extractLsb'_append_eq_of_le (le_refl 8)).trans BitVec.extractLsb'_eq_self
  have hdata : (addr ++ data).extractLsb' 0 8 = data :=
    (BitVec.extractLsb'_append_eq_of_add_le (le_refl 8)).trans BitVec.extractLsb'_eq_self
  rw [decode, haddr, hdata]

/-! #### The CMD decoder's successes (30_encoding.md R72, R78) -/

/-- Everything known of a CMD word that is not refused, and of what it decodes to. -/
theorem decodeCmd_ok_cases {w : Word} {i : Instr} (h : decodeCmd w = .ok i) : cmdReserved w = 0#24 ∧
    ((cmdOp w = 0x1#4 ∧ cmdBmlen w = 0#4 ∧ i = .init) ∨ (cmdOp w = 0x2#4 ∧ cmdBmlen w = 0#4 ∧ i = .clear) ∨
      (cmdOp w = 0x3#4 ∧ cmdBmlen w ≤ 8#4 ∧ i = .draw (cmdBmlen w)) ∨
      (cmdOp w = 0x4#4 ∧ cmdBmlen w = 0#4 ∧ i = .flash)) := by
  rw [decodeCmd] at h
  split_ifs at h with hres hop hlen hrange hinit hclear hdraw <;> cases h
  all_goals refine ⟨of_not_not hres, ?_⟩
  · exact .inl ⟨hinit, by simpa [hinit] using hlen, rfl⟩
  · exact .inr (.inl ⟨hclear, by simpa [hclear] using hlen, rfl⟩)
  · exact .inr (.inr (.inl ⟨hdraw, by simpa [hdraw] using hrange, rfl⟩))
  · have hflash : cmdOp w = 0x4#4 := by simpa [hinit, hclear, hdraw] using hop
    exact .inr (.inr (.inr ⟨hflash, by simpa [hflash] using hlen, rfl⟩))

theorem encode_of_decodeCmd {w : Word} {i : Instr} (h : decodeCmd w = .ok i) : encode i = .cmd w := by
  obtain ⟨hres, hfields⟩ := decodeCmd_ok_cases h
  rw [← cmdWord_fields hres]
  obtain ⟨hop, hlen, rfl⟩ | ⟨hop, hlen, rfl⟩ | ⟨hop, -, rfl⟩ | ⟨hop, hlen, rfl⟩ := hfields
  · rw [encode, hop, hlen]
  · rw [encode, hop, hlen]
  · rw [encode, hop]
  · rw [encode, hop, hlen]

/-- Settles O1: DRAW by its well-formed BMLEN, a bus word by its two bytes; the decoder reads the rest off the code. -/
theorem decodeOfEncodeIsTheInstruction : Obligations.DecodeOfEncodeIsTheInstruction := by
  intro i hwf
  cases i with
  | draw n => exact decode_cmdWord_draw n (of_decide_eq_true hwf)
  | busWord addr data => exact decode_busWord addr data
  | init | clear | flash => decide
  | _ => rfl

/-- Settles O2: no CMD word that decodes has a bit outside the fields the encoder writes, and no bus word has any. -/
theorem encodeOfDecodedWordIsTheWord : Obligations.EncodeOfDecodedWordIsTheWord := by
  intro c i h
  cases c with
  | cmd w => exact .inr (encode_of_decodeCmd h)
  | internal op lanes => exact .inl ⟨op, lanes, rfl⟩
  | function r v =>
    obtain rfl : .seqRow r v = i := Except.ok.inj h
    exact .inr rfl
  | wire half =>
    obtain rfl : .busWord (half.extractLsb' 8 8) (half.extractLsb' 0 8) = i := Except.ok.inj h
    exact .inr (congrArg Code.wire (busWord_fields half))

/-- Settles O3: the words are fixed, and the decoder is evaluated on each. -/
theorem decodedWordsAreTheSpecs : Obligations.DecodedWordsAreTheSpecs := by
  unfold Obligations.DecodedWordsAreTheSpecs
  decide

end Sys2Proof.Machine
